-- ==== Sys2Proof/Word.lean ====
section
/-! DEFINITION. The word types of IMUCORE: bytes, 16-bit axis values, frames (00_scope.md R7, Glossary). -/

namespace Sys2Proof

/-- "A byte is 8 bits" (R7). -/
abbrev Byte := BitVec 8

/-- One axis value: 16 bits, moved unchanged and never read as signed (R11, R24). -/
abbrev Word := BitVec 16

/-- A command or response, as a byte list (00_scope.md Glossary, R70, R78). -/
abbrev Frame := List Byte

end Sys2Proof
end

