-- ==== Sys2Proof/Config.lean ====
section
/-! DEFINITION. The implementation parameters of 00_scope.md R5: fixed for one machine, changed by no command. -/

namespace Sys2Proof

/-- The parameters of R5 that a rule reads. The number of ports NPORTS is the length of the machine's port list,
and MAX_COUNTER is computed from `tsW` (R5, decision D9). -/
structure Params where
  /-- `TS_W`: the width of a timestamp, of LAST_TS and of GATE_THRESHOLD. -/
  tsW : Nat
  /-- `GATE_THRESHOLD` (T): a gate-pass needs `diff > T`. -/
  gateThreshold : Nat
  /-- `GYRO_ADDR_BYTE`: the one address byte TICK writes before the 12-byte read. -/
  gyroAddrByte : Byte
deriving DecidableEq, Repr

/-- The ranges R5 gives: `1 <= TS_W <= 64` and `0 <= T <= MAX_COUNTER`. -/
abbrev Params.Valid (P : Params) : Prop :=
  1 ≤ P.tsW ∧ P.tsW ≤ 64 ∧ P.gateThreshold < 2 ^ P.tsW

/-- The default of TS_W (R5, decision D8). -/
def Config.defaultTsW : Nat := 32

/-- The default of NPORTS: ports A, R and C (R5, R9, decision D6). -/
def Config.defaultNports : Nat := 3

/-- GATE_THRESHOLD at the default width: OPEN in the spec (R5, decision D10), so a free value in 0..MAX_COUNTER
(log 2). -/
opaque Config.gateThreshold : BitVec 32

/-- GYRO_ADDR_BYTE: OPEN in the spec (R5, decision D19), so a free value (log 3). -/
opaque Config.gyroAddrByte : Byte

/-- TS_UNIT, the real time per timestamp count: OPEN, and "no rule depends on it" (R5, decision D11; log 4). -/
opaque Config.tsUnit : Nat

/-- The parameters of the machine that `State.reset` describes. -/
def Config.params : Params :=
  { tsW := Config.defaultTsW
    gateThreshold := Config.gateThreshold.toNat
    gyroAddrByte := Config.gyroAddrByte }

/-- `XFER_LEN`, the bytes of one transport read (R5). -/
def Config.xferLen : Nat := 12

end Sys2Proof
end

