-- ==== Sys2Proof/Syntax.lean ====
section
/-! DEFINITION. The commands of IMUCORE (30_encoding.md R72): one constructor per row of the opcode table. -/

namespace Sys2Proof

/-- The six axes, in the order of their numbers GX = 0 .. AZ = 5 (R24). -/
inductive Axis where
  | gx | gy | gz | ax | ay | az
deriving DecidableEq, Repr

/-- The axis number a of R24. -/
def Axis.number : Axis → Nat
  | .gx => 0
  | .gy => 1
  | .gz => 2
  | .ax => 3
  | .ay => 4
  | .az => 5

/-- The operand v[0..5] of a ring write: one 16-bit value for each axis (R75, R121). -/
structure AxisValues where
  gx : Word
  gy : Word
  gz : Word
  ax : Word
  ay : Word
  az : Word
deriving DecidableEq, Repr

/-- v[a]. -/
def AxisValues.get (v : AxisValues) : Axis → Word
  | .gx => v.gx
  | .gy => v.gy
  | .gz => v.gz
  | .ax => v.ax
  | .ay => v.ay
  | .az => v.az

/-- The commands. A timestamp operand is the unsigned number its bytes stand for (R74); `Instr.wellFormed` says
that it fits TS_W bits. -/
inductive Instr where
  /-- GATE ts: evaluate the rate gate (R100). -/
  | gate (ts : Nat)
  /-- RWRITE v: write one generation of six axis values (R121). -/
  | rwrite (v : AxisValues)
  /-- RDPKT: read the packet (R123). -/
  | rdpkt
  /-- RSTCUR: reset the write index (R124). -/
  | rstcur
  /-- TICK ts: one acquisition tick (R151). -/
  | tick (ts : Nat)
  /-- SETEN e: set the enable flag (R157). -/
  | seten (e : Bool)
deriving DecidableEq, Repr

end Sys2Proof
end

