-- ==== Sys2Proof/Machine/State.lean ====
section
/-! DEFINITION. The state of IMUCORE (10_state.md R20 to R28) as plain data, with the agents around it held as data of
the model's own, the outcomes of a step, and the state after reset (70_reset_and_hazards.md R200). -/

namespace Sys2Proof.Machine

/-- One AxisSampleBuffer: the three generations of one axis (R24). -/
structure AxisBuffer where
  g0 : Word
  g1 : Word
  g2 : Word
deriving DecidableEq, Repr

/-- RING[a][g]: six axis buffers (R24). -/
structure Ring where
  gx : AxisBuffer
  gy : AxisBuffer
  gz : AxisBuffer
  ax : AxisBuffer
  ay : AxisBuffer
  az : AxisBuffer
deriving DecidableEq, Repr

/-- Three zero entries. -/
def AxisBuffer.zero : AxisBuffer := { g0 := 0, g1 := 0, g2 := 0 }

/-- "every entry 0x0000" (R24). -/
def Ring.zero : Ring :=
  { gx := .zero, gy := .zero, gz := .zero, ax := .zero, ay := .zero, az := .zero }

/-- The sequencer phases (R27). -/
inductive Phase where
  | idle | tXport | tAddr | tRead | tDesel | tWrite
deriving DecidableEq, Repr

/-- The 12 bytes of one transport read, in transfer order r[0..11] (R54, R154). -/
structure XferBytes where
  r0 : Byte
  r1 : Byte
  r2 : Byte
  r3 : Byte
  r4 : Byte
  r5 : Byte
  r6 : Byte
  r7 : Byte
  r8 : Byte
  r9 : Byte
  r10 : Byte
  r11 : Byte
deriving DecidableEq, Repr

/-- Twelve zero bytes. -/
def XferBytes.zero : XferBytes :=
  { r0 := 0, r1 := 0, r2 := 0, r3 := 0, r4 := 0, r5 := 0, r6 := 0, r7 := 0, r8 := 0, r9 := 0, r10 := 0, r11 := 0 }

/-- What stands between a port and its issuer. Frames in flight belong to the issuer and are no state of the block
(R32); the model holds them as data. -/
structure Channel where
  /-- The frame the issuer shows and the block has not accepted (R70, R212). -/
  frame : Option Frame
  /-- The response sent and not yet taken (R27, R78). -/
  response : Option Frame
deriving DecidableEq, Repr

/-- One command port: its sequencer phase (R27), its latches (R28) and the channel to its issuer. -/
structure Port where
  /-- `seq[p]` (R27). -/
  seq : Phase
  /-- `TSL[p]`, the timestamp of the TICK in progress (R28). -/
  tsl : Nat
  /-- `RXB[p]`, the bytes the transport returned to that TICK (R28). -/
  rxb : XferBytes
  /-- The model's own: the frames in flight at this port (R32). -/
  chan : Channel
deriving DecidableEq, Repr

/-- A port right after reset: IDLE (R27), nothing in flight. TSL and RXB are unspecified by R28; zero is a DESIGN
CHOICE (log 7). -/
def Port.reset : Port :=
  { seq := .idle, tsl := 0, rxb := .zero, chan := { frame := none, response := none } }

/-- What the transport does jointly with a sequencer's step (R154). -/
inductive TxAnswer where
  /-- It has taken the byte of a TxWrite. -/
  | taken
  /-- It answers a TxRead with these bytes: "any 12 bytes (a draw)". -/
  | bytes (r : XferBytes)
deriving DecidableEq, Repr

/-- What IMUCORE does on the transport (R187), for the record of R50 (4). -/
inductive TxOp where
  | selAssert
  | selDeassert
  /-- TxWrite of these bytes, completed. -/
  | write (bytes : List Byte)
  /-- TxRead of n bytes, answered. -/
  | read (n : Nat) (r : XferBytes)
deriving DecidableEq, Repr

/-- One move of one agent (R9). -/
inductive Move where
  /-- The issuer of port p shows a frame at p. -/
  | present (p : Nat) (f : Frame)
  /-- The frame shown at p and not accepted is gone, too early or not (R212, logs 11, 32). -/
  | withdraw (p : Nat)
  /-- The issuer of port p takes the response. -/
  | take (p : Nat)
  /-- The sequencer of port p takes its turn; `answer` is what the transport completes in the same step. -/
  | run (p : Nat) (answer : Option TxAnswer)
deriving DecidableEq, Repr

/-- What the agents do in one step: the reset input and one move. -/
structure Input where
  reset : Bool
  move : Move
deriving DecidableEq, Repr

/-- What surrounds the block: no state of IMUCORE (R32), the model's own data. -/
structure Env where
  /-- The parameters of R5, which "a model takes as arguments": no step changes them (log 1). -/
  params : Params
  /-- The moves still to come, in order: the interleaving of R59 (log 9). -/
  inputs : List Input
  /-- The port whose sequencer is taking this step. -/
  port : Nat
  /-- What the transport completes in this step. -/
  answer : Option TxAnswer
  /-- What IMUCORE has done on the transport, oldest first (R50 (4), log 14). -/
  stream : List TxOp
deriving DecidableEq, Repr

/-- The state: the spec's elements (R20), and `env`. -/
structure State where
  /-- `LAST_TS` (R21): a number below `2^TS_W` (`State.Inv`, log 6). -/
  lastTs : Nat
  /-- `ENABLED` (R22). -/
  enabled : Bool
  /-- `CURSOR` (R23): its legal values 0, 1, 2 and no other (R31, log 8). -/
  cursor : Fin 3
  /-- `RING` (R24). -/
  ring : Ring
  /-- `LOCK` (R25). -/
  lock : Bool
  /-- `XPORT_OWNER`: NONE or a port id (R26). -/
  xportOwner : Option Nat
  /-- `SEL` (R26). -/
  sel : Bool
  /-- `seq[p]`, `TSL[p]` and `RXB[p]` for p in 0..NPORTS-1 (R27, R28), with each port's channel. -/
  ports : List Port
  /-- The model's own: parameters, moves to come, transport record. -/
  env : Env
deriving DecidableEq, Repr

/-- NPORTS (R5): the number of command ports. -/
def State.nports (s : State) : Nat := s.ports.length

/-- The reasons a step can stop with a fault: none. "The source defines no fault" (R10, R180), there is no trap
(R185), and an ill-formed frame is answered (R181). -/
inductive Fault where
deriving DecidableEq, Repr

/-- The reasons a step can be refused. -/
inductive Refusal where
  /-- Raised by exec's arm for an instruction that has no meaning yet: none is left. Safe. -/
  | notModelled (mnemonic : String)
  /-- Raised by the step for an input that names a port at or beyond NPORTS: no agent of the machine makes that
  move (R9). Safe: the model stops where the machine has no such step (log 18). -/
  | noSuchPort (p : Nat)
deriving DecidableEq, Repr

/-- The outcome of a step of this machine. -/
abbrev Result := Host.Outcome State Fault Refusal

/-- The machine right after reset (R200), with the default parameters of R5 and no move to come (logs 7, 29). -/
def State.reset : State :=
  { lastTs := 0
    enabled := false
    cursor := 0
    ring := .zero
    lock := false
    xportOwner := none
    sel := false
    ports := List.replicate Config.defaultNports Port.reset
    env := { params := Config.params, inputs := [], port := 0, answer := none, stream := [] } }

end Sys2Proof.Machine
end

