-- ==== Sys2Proof/Machine/Operands.lean ====
section
/-! DEFINITION. Byte order and operand assembly: 00_scope.md R6, R7, R150's constants, 30_encoding.md R74, R75, R81. -/

namespace Sys2Proof.Machine

/-- `lo(v) = v[7:0]` (R7). -/
def lo (v : Word) : Byte := v.extractLsb' 0 8

/-- `hi(v) = v[15:8]` (R7). -/
def hi (v : Word) : Byte := v.extractLsb' 8 8

/-- `le16(b0, b1) = b1 ++ b0` (R7). -/
def le16 (b0 b1 : Byte) : Word := b1 ++ b0

/-- The number whose little-endian bytes these are: the sum of `B[i] << (8*i)` (R53, R74). -/
def leNat : List Byte → Nat
  | [] => 0
  | b :: bs => b.toNat + 256 * leNat bs

/-- The n little-endian bytes of a number (R53). -/
def leBytes : Nat → Nat → List Byte
  | 0, _ => []
  | n + 1, v => BitVec.ofNat 8 v :: leBytes n (v / 256)

/-- `TSB = ceil(TS_W / 8)`, the bytes of a timestamp operand (R6). -/
def tsb (tsW : Nat) : Nat := (tsW + 7) / 8

/-- `MAX_COUNTER = 2^TS_W - 1` (R5, decision D9, conflict C2). -/
def maxCounter (tsW : Nat) : Nat := 2 ^ tsW - 1

/-- The payload of an FW frame: `v[a] = le16(B[1+2a], B[2+2a])`, two bytes for each axis in the order of R24 (R75). -/
def axisPayload (v : AxisValues) : List Byte :=
  [lo v.gx, hi v.gx, lo v.gy, hi v.gy, lo v.gz, hi v.gz, lo v.ax, hi v.ax, lo v.ay, hi v.ay, lo v.az, hi v.az]

/-- The axis values an FW payload stands for (R75); none unless it has 12 bytes. -/
def axisOperand : List Byte → Option AxisValues
  | [b1, b2, b3, b4, b5, b6, b7, b8, b9, b10, b11, b12] =>
    some { gx := le16 b1 b2, gy := le16 b3 b4, gz := le16 b5 b6, ax := le16 b7 b8, ay := le16 b9 b10, az := le16 b11 b12 }
  | _ => none

/-- ACCEL_X: the bytes {188, 254} (R5, R150). -/
def accelX : Word := le16 188 254

/-- ACCEL_Y: the bytes {186, 0} (R5, R150). -/
def accelY : Word := le16 186 0

/-- ACCEL_Z: the bytes {25, 16} (R5, R150). -/
def accelZ : Word := le16 25 16

/-- The values a TICK writes: gyro from the first six transport bytes (R81), the accel constants (R150, R156).
Bytes 6..11 are not used. -/
def tickValues (r : XferBytes) : AxisValues :=
  { gx := le16 r.r0 r.r1, gy := le16 r.r2 r.r3, gz := le16 r.r4 r.r5, ax := accelX, ay := accelY, az := accelZ }

end Sys2Proof.Machine
end

