-- ==== Sys2Proof/WellFormed.lean ====
section
/-! DEFINITION. Which commands the encoding admits at a timestamp width (30_encoding.md R74, R75, R76 check 6). -/

namespace Sys2Proof

/-- A timestamp operand is legal only if it is below `2^TS_W` (R74). Every 16-bit axis pattern is legal (R75), and
so is either value of SETEN. -/
def Instr.wellFormed (tsW : Nat) : Instr → Bool
  | .gate ts => decide (ts < 2 ^ tsW)
  | .rwrite _ => true
  | .rdpkt => true
  | .rstcur => true
  | .tick ts => decide (ts < 2 ^ tsW)
  | .seten _ => true

end Sys2Proof
end

