-- ==== Sys2Proof/Decode.lean ====
section
/-! DEFINITION. Decoding of command frames (30_encoding.md R70 to R77, R80), total on any bytes, and the encoder (R73). -/

namespace Sys2Proof

open Sys2Proof.Machine

/-- Why a frame is illegal: the six checks of R76, in its order. The machine answers all alike. -/
inductive DecodeError where
  /-- Check 1 fails: the empty frame. -/
  | emptyFrame
  /-- Check 2 fails: H[7:5] is not zero. -/
  | reservedField
  /-- Check 3 fails: OP is 0x0 or 0x7 to 0xF. -/
  | reservedOpcode
  /-- Check 4 fails: E = 1 with an opcode other than SETEN's. -/
  | enableBit
  /-- Check 5 fails: not the length of OP's format. -/
  | wrongLength
  /-- Check 6 fails: a timestamp at or above `2^TS_W`. -/
  | timestampRange
deriving DecidableEq, Repr

/-- The opcodes of R72. -/
inductive Opcode where
  | gate | rwrite | rdpkt | rstcur | tick | seten
deriving DecidableEq, Repr

/-- H[3:0] (R71). -/
def headerOp (h : Byte) : BitVec 4 := h.extractLsb' 0 4

/-- H[4] (R71). -/
def headerE (h : Byte) : Bool := h.getLsbD 4

/-- H[7:5] (R71). -/
def headerRsv (h : Byte) : BitVec 3 := h.extractLsb' 5 3

/-- The opcode map of R72; 0x0 and 0x7..0xF are reserved. -/
def opcodeOf (op : BitVec 4) : Option Opcode :=
  match op.toNat with
  | 1 => some .gate
  | 2 => some .rwrite
  | 3 => some .rdpkt
  | 4 => some .rstcur
  | 5 => some .tick
  | 6 => some .seten
  | _ => none

/-- The four-bit code of an opcode (R72). -/
def opcodeBits : Opcode → BitVec 4
  | .gate => 1
  | .rwrite => 2
  | .rdpkt => 3
  | .rstcur => 4
  | .tick => 5
  | .seten => 6

/-- The frame length of an opcode's format (R73): FT has `1 + TSB` bytes, FW 13, FN and FE 1. -/
def frameLength (tsW : Nat) : Opcode → Nat
  | .gate => 1 + tsb tsW
  | .rwrite => 13
  | .rdpkt => 1
  | .rstcur => 1
  | .tick => 1 + tsb tsW
  | .seten => 1

/-- The timestamp operand, legal only below `2^TS_W` (R74). -/
def decodeTimestamp (tsW : Nat) (payload : List Byte) : Except DecodeError Nat :=
  if leNat payload < 2 ^ tsW then .ok (leNat payload) else .error .timestampRange

/-- The command of an opcode with its operands, from a payload of the right length (R74, R75, R71's E). -/
def decodeOperands (tsW : Nat) (op : Opcode) (e : Bool) (payload : List Byte) : Except DecodeError Instr :=
  match op with
  | .gate => (decodeTimestamp tsW payload).map .gate
  | .rwrite =>
    match axisOperand payload with
    | some v => .ok (.rwrite v)
    | none => .error .wrongLength
  | .rdpkt => .ok .rdpkt
  | .rstcur => .ok .rstcur
  | .tick => (decodeTimestamp tsW payload).map .tick
  | .seten => .ok (.seten e)

/-- Decode a whole frame: the checks of R76 in their order. -/
def decode (tsW : Nat) (f : Frame) : Except DecodeError Instr :=
  match f with
  | [] => .error .emptyFrame
  | h :: payload =>
    if headerRsv h ≠ 0 then .error .reservedField
    else
      match opcodeOf (headerOp h) with
      | none => .error .reservedOpcode
      | some op =>
        if headerE h = true ∧ op ≠ .seten then .error .enableBit
        else if payload.length + 1 ≠ frameLength tsW op then .error .wrongLength
        else decodeOperands tsW op (headerE h) payload

/-- How many bytes a decoder of a byte stream takes for a header: `1 + TSB` for OP 0x1 and 0x5, 13 for OP 0x2, and 1
for every other OP, legal or not (R80). -/
def streamLength (tsW : Nat) (h : Byte) : Nat :=
  match opcodeOf (headerOp h) with
  | some op => frameLength tsW op
  | none => 1

/-- The first frame of a byte stream and the bytes after it (R80). For a stream that ends before its header's length R80
is silent: that the short list is handed over as the frame, and the empty list for an empty stream, is a DESIGN CHOICE
(log 31). -/
def takeFrame (tsW : Nat) (stream : List Byte) : Frame × List Byte :=
  match stream with
  | [] => ([], [])
  | h :: rest => ((h :: rest).take (streamLength tsW h), (h :: rest).drop (streamLength tsW h))

/-- The header byte: OP, E, and RSV = 0b000 (R71). -/
def header (op : Opcode) (e : Bool) : Byte := (0 : BitVec 3) ++ BitVec.ofBool e ++ opcodeBits op

/-- The opcode of a command (R72). -/
def Instr.opcode : Instr → Opcode
  | .gate _ => .gate
  | .rwrite _ => .rwrite
  | .rdpkt => .rdpkt
  | .rstcur => .rstcur
  | .tick _ => .tick
  | .seten _ => .seten

/-- The frame of a well-formed command (R73 to R75). -/
def encode (tsW : Nat) : Instr → Frame
  | .gate ts => header .gate false :: leBytes (tsb tsW) ts
  | .rwrite v => header .rwrite false :: axisPayload v
  | .rdpkt => [header .rdpkt false]
  | .rstcur => [header .rstcur false]
  | .tick ts => header .tick false :: leBytes (tsb tsW) ts
  | .seten e => [header .seten e]

/-- The bytes of a table word, first byte at bits 7..0, followed by more zero bytes than any frame has
(`1 + TSB <= 9`, 13). -/
def tableBytes (nbits w : Nat) : List Byte := leBytes (nbits / 8) w ++ List.replicate 13 0

/-- The frame of a table word: what a stream decoder takes from its bytes (R80). -/
def tableFrame (tsW nbits w : Nat) : Frame := (takeFrame tsW (tableBytes nbits w)).1

/-- The instruction the decoder reads from a table word, at the default TS_W = 32. -/
def decodeTableWord (nbits w : Nat) : Option Instr :=
  match decode Config.defaultTsW (tableFrame Config.defaultTsW nbits w) with
  | .ok i => some i
  | .error _ => none

end Sys2Proof
end

