-- ==== Sys2Proof/Machine/Flags.lean ====
section
/-! DEFINITION. The response status bits and the one stored flag: 30_encoding.md R78, 10_state.md R30. -/

namespace Sys2Proof.Machine

/-- The status byte S: `S[0] = ILL`, `S[1] = RES`, `S[7:2] = 0` (R78). -/
def statusByte (ill res : Bool) : Byte := (0 : BitVec 6) ++ BitVec.ofBool res ++ BitVec.ofBool ill

/-- The response frame `S ++ D` (R78). -/
def responseFrame (ill res : Bool) (data : List Byte) : Frame := statusByte ill res :: data

/-- ENABLED is the only stored flag (R30); SETEN alone writes it (R22). -/
def State.setEnabled (s : State) (e : Bool) : State := { s with enabled := e }

end Sys2Proof.Machine
end

