-- ==== Sys2Proof/Machine/Ops.lean ====
section
/-! DEFINITION. The shared operations: ports, responses, holds, ring units, the gate, the ring write and the serializer. -/

namespace Sys2Proof.Machine

/-! ### Ports -/

/-- Port p's part of the state; a port that does not exist reads as a port after reset. -/
def State.portAt (s : State) (p : Nat) : Port := (s.ports[p]?).getD Port.reset

/-- Change port p; a port that does not exist is not changed. -/
def State.setPort (s : State) (p : Nat) (x : Port) : State := { s with ports := s.ports.set p x }

/-- The port whose sequencer is taking this step. -/
def State.here (s : State) : Port := s.portAt s.env.port

/-- Change the port whose sequencer is taking this step. -/
def State.setHere (s : State) (x : Port) : State := s.setPort s.env.port x

/-- `seq[p] <- phase` at the port of this step (R8). -/
def State.setSeq (s : State) (ph : Phase) : State := s.setHere { s.here with seq := ph }

/-- `TSL[p] <- ts` at the port of this step. -/
def State.setTsl (s : State) (ts : Nat) : State := s.setHere { s.here with tsl := ts }

/-- `RXB[p] <- r` at the port of this step. -/
def State.setRxb (s : State) (r : XferBytes) : State := s.setHere { s.here with rxb := r }

/-- `Respond(p, status, data)` at the port of this step: sends the response frame (R8, R78). -/
def State.respond (s : State) (ill res : Bool) (data : List Byte) : State :=
  s.setHere { s.here with chan := { s.here.chan with response := some (responseFrame ill res data) } }

/-- The frame shown at the port of this step has been accepted: the issuer no longer shows it. -/
def State.dropFrame (s : State) : State :=
  s.setHere { s.here with chan := { s.here.chan with frame := none } }

/-! ### Single elements -/

/-- `LAST_TS <- ts` (R21). -/
def State.setLastTs (s : State) (ts : Nat) : State := { s with lastTs := ts }

/-- `CURSOR <- c` (R23). -/
def State.setCursor (s : State) (c : Fin 3) : State := { s with cursor := c }

/-- `LOCK <- b` (R25). -/
def State.setLock (s : State) (b : Bool) : State := { s with lock := b }

/-- Port p takes the transport and asserts select: `XPORT_OWNER <- p`, `SEL <- 1` (R26, R153). -/
def State.takeTransport (s : State) (p : Nat) : State := { s with xportOwner := some p, sel := true }

/-- Select is deasserted and the transport released: `SEL <- 0`, `XPORT_OWNER <- NONE` (R26, R155). -/
def State.releaseTransport (s : State) : State := { s with xportOwner := none, sel := false }

/-! ### Outcomes -/

/-- `hold`: "the current atomic unit cannot start now. No state changes, and the unit is retried in a later step" (R8). -/
def hold (s : State) : Result := .next s

/-- The ILLEGAL outcome: status 0x01, no data, and no state element changes (R181). This is an ordinary response;
IMUCORE has no exception to take and none to return from (R185). -/
def answerIllegal (s : State) : Result := .next (s.respond true false [])

/-- A ring unit (R60): hold while LOCK = 1; otherwise take LOCK, run the body, release LOCK, all in one step. -/
def ringUnit (body : State → State) (s : State) : Result :=
  match s.lock with
  | true => hold s
  | false => .next ((body (s.setLock true)).setLock false)

/-! ### Rate gate -/

/-- The forward difference of R101, on the integers. -/
def diff (tsW last ts : Nat) : Nat :=
  if ts < last then (maxCounter tsW - last) + ts else ts - last

/-- The gate evaluation of R102: the result and the new stored timestamp. -/
def gateEval (tsW threshold last ts : Nat) : Bool × Nat :=
  if ts = last then (false, last)
  else if diff tsW last ts > threshold then (true, ts)
  else (false, last)

/-- GateEval of LAST_TS under the machine's own parameters (R100, R152). -/
def State.gate (s : State) (ts : Nat) : Bool × Nat :=
  gateEval s.env.params.tsW s.env.params.gateThreshold s.lastTs ts

/-! ### Sample ring -/

/-- Generation g of one axis. -/
def AxisBuffer.get (b : AxisBuffer) (g : Fin 3) : Word :=
  match g with
  | 0 => b.g0
  | 1 => b.g1
  | 2 => b.g2

/-- Overwrite generation g of one axis in place. -/
def AxisBuffer.set (b : AxisBuffer) (g : Fin 3) (w : Word) : AxisBuffer :=
  match g with
  | 0 => { b with g0 := w }
  | 1 => { b with g1 := w }
  | 2 => { b with g2 := w }

/-- The buffer of one axis. -/
def Ring.axis (r : Ring) : Axis → AxisBuffer
  | .gx => r.gx
  | .gy => r.gy
  | .gz => r.gz
  | .ax => r.ax
  | .ay => r.ay
  | .az => r.az

/-- `RING[a][g]` (R24). -/
def Ring.entry (r : Ring) (a : Axis) (g : Fin 3) : Word := (r.axis a).get g

/-- `for a in 0..5: RING[a][g] <- v[a]` (R121). -/
def Ring.write (r : Ring) (g : Fin 3) (v : AxisValues) : Ring :=
  { gx := r.gx.set g v.gx
    gy := r.gy.set g v.gy
    gz := r.gz.set g v.gz
    ax := r.ax.set g v.ax
    ay := r.ay.set g v.ay
    az := r.az.set g v.az }

/-- `SatInc(c) = if c < 2 then c + 1 else 2` (R120). -/
def satInc (c : Fin 3) : Fin 3 :=
  match c with
  | 0 => 1
  | 1 => 2
  | 2 => 2

/-- RingWrite(v): all six axes at generation CURSOR, then CURSOR <- SatInc (R121). -/
def State.ringWrite (s : State) (v : AxisValues) : State :=
  { s with ring := s.ring.write s.cursor v, cursor := satInc s.cursor }

/-- The axis order within a generation: `ORDER = [AY, AX, AZ, GY, GX, GZ]` (R122). -/
def packetOrder : List Axis := [.ay, .ax, .az, .gy, .gx, .gz]

/-- One generation of the packet: each axis low byte, then high byte (R122). -/
def Ring.generationBytes (r : Ring) (g : Fin 3) : List Byte :=
  packetOrder.flatMap fun a => [lo (r.entry a g), hi (r.entry a g)]

/-- `SER : RING -> 36 bytes`: generation 0, 1, 2 at offsets 0, 12, 24 (R122). -/
def Ring.ser (r : Ring) : List Byte :=
  r.generationBytes 0 ++ r.generationBytes 1 ++ r.generationBytes 2

/-! ### Transport -/

/-- Add one operation to the record of what IMUCORE did on the transport (R50 (4), log 14). -/
def State.logTx (s : State) (op : TxOp) : State :=
  { s with env := { s.env with stream := s.env.stream ++ [op] } }

end Sys2Proof.Machine
end

