-- ==== Sys2Proof/Machine/Acquisition.lean ====
section
/-! DEFINITION. The acquisition cycle and enable control (43_acquisition.md): TICK and SETEN. -/

namespace Sys2Proof.Machine

/-- U_T0: sample ENABLED, evaluate the gate, latch the timestamp (R152). -/
def unitT0 (ts : Nat) (s : State) : Result :=
  match s.enabled with
  | false => .next (s.respond false false [])
  | true =>
    match (s.gate ts).1 with
    | false => .next ((s.setLastTs (s.gate ts).2).respond false false [])
    | true => .next (((s.setLastTs (s.gate ts).2).setTsl ts).setSeq .tXport)

/-- U_T1: take the transport and assert select, or hold while another TICK owns it (R153). -/
def unitT1 (s : State) : Result :=
  match s.xportOwner with
  | some _ => hold s
  | none => .next (((s.takeTransport s.env.port).logTx .selAssert).setSeq .tAddr)

/-- U_T2: TxWrite([GYRO_ADDR_BYTE]), jointly with the transport; holds until it has taken the byte (R154). -/
def unitT2 (s : State) : Result :=
  match s.env.answer with
  | some .taken => .next ((s.logTx (.write [s.env.params.gyroAddrByte])).setSeq .tRead)
  | _ => hold s

/-- U_T3: TxRead(12), jointly with the transport; holds until it answers, and takes any bytes (R154, R182). -/
def unitT3 (s : State) : Result :=
  match s.env.answer with
  | some (.bytes r) => .next (((s.logTx (.read Config.xferLen r)).setRxb r).setSeq .tDesel)
  | _ => hold s

/-- U_T4: deassert select and release the transport (R155). -/
def unitT4 (s : State) : Result :=
  .next ((s.releaseTransport.logTx .selDeassert).setSeq .tWrite)

/-- U_T5: the ring write, a ring unit, at the CURSOR of this step; status 0x02 (R156). -/
def unitT5 (s : State) : Result :=
  ringUnit (fun s => ((s.ringWrite (tickValues s.here.rxb)).respond false true []).setSeq .idle) s

/-- TICK ts (R151): the unit at which the port's sequencer stands. From IDLE it is U_T0; a TICK in progress goes on
with its next unit, so the six units are six steps of the same command (R56). -/
def execTick (ts : Nat) (s : State) : Result :=
  match s.here.seq with
  | .idle => unitT0 ts s
  | .tXport => unitT1 s
  | .tAddr => unitT2 s
  | .tRead => unitT3 s
  | .tDesel => unitT4 s
  | .tWrite => unitT5 s

/-- SETEN e, unit U_EN (R157). -/
def execSeten (e : Bool) (s : State) : Result :=
  .next ((s.setEnabled e).respond false false [])

end Sys2Proof.Machine
end

