-- ==== Sys2Proof/Machine/RateGate.lean ====
section
/-! DEFINITION. The rate gate's command (41_rategate.md): GATE. -/

namespace Sys2Proof.Machine

/-- GATE ts, unit U_GATE (R100): LAST_TS takes the gate's new value, and RES is the gate result. -/
def execGate (ts : Nat) (s : State) : Result :=
  .next ((s.setLastTs (s.gate ts).2).respond false (s.gate ts).1 [])

end Sys2Proof.Machine
end

