-- ==== Sys2Proof/Machine/SampleRing.lean ====
section
/-! DEFINITION. The sample ring's commands (42_samplering.md): RWRITE, RDPKT, RSTCUR. -/

namespace Sys2Proof.Machine

/-- RWRITE v, ring unit U_RW (R121). -/
def execRwrite (v : AxisValues) (s : State) : Result :=
  ringUnit (fun s => (s.ringWrite v).respond false false []) s

/-- RDPKT, ring unit U_RD (R123): the response carries one snapshot of the packet. -/
def execRdpkt (s : State) : Result :=
  ringUnit (fun s => s.respond false false s.ring.ser) s

/-- RSTCUR, ring unit U_RC (R124): CURSOR <- 0, RING as it was. -/
def execRstcur (s : State) : Result :=
  ringUnit (fun s => (s.setCursor 0).respond false false []) s

end Sys2Proof.Machine
end

