-- ==== Sys2Proof/Machine/Dispatch.lean ====
section
/-! DEFINITION. One meaning per command. -/

namespace Sys2Proof.Machine

def exec (i : Instr) (s : State) : Host.Outcome State Fault Refusal :=
  match i with
  | .gate ts => Sys2Proof.Machine.execGate ts s
  | .rwrite v => Sys2Proof.Machine.execRwrite v s
  | .rdpkt => Sys2Proof.Machine.execRdpkt s
  | .rstcur => Sys2Proof.Machine.execRstcur s
  | .tick ts => Sys2Proof.Machine.execTick ts s
  | .seten e => Sys2Proof.Machine.execSeten e s

end Sys2Proof.Machine
end

