-- ==== Sys2Proof/Machine/Ports.lean ====
section
/-! DEFINITION. What one input does: the issuers' moves, a sequencer's turn, and the reset input (R9, R27, R59, R201). -/

namespace Sys2Proof.Machine

/-- Change the channel of port p. -/
def State.setChan (s : State) (p : Nat) (c : Channel) : State := s.setPort p { s.portAt p with chan := c }

/-- The issuer of port p shows a frame at p (R70). It shows one at a time: another replaces it (DESIGN CHOICE, logs 11, 32). -/
def State.present (s : State) (p : Nat) (f : Frame) : State :=
  s.setChan p { (s.portAt p).chan with frame := some f }

/-- The frame shown at p is gone. For a frame shown too early R212 says "the block is not obliged to keep it" (log 11);
for one shown in time and not yet accepted the spec is silent, and that it too can be withdrawn is a DESIGN CHOICE
(log 32). -/
def State.withdraw (s : State) (p : Nat) : State :=
  s.setChan p { (s.portAt p).chan with frame := none }

/-- The issuer of port p takes the response: it is delivered (R27). -/
def State.takeResponse (s : State) (p : Nat) : State :=
  s.setChan p { (s.portAt p).chan with response := none }

/-- The sequencer of port p takes this step, with what the transport completes in it. -/
def State.turn (s : State) (p : Nat) (answer : Option TxAnswer) : State :=
  { s with env := { s.env with port := p, answer := answer } }

/-- The first unit of the accepted command has run at the port of this step: it has answered, or its sequencer has left
IDLE. If it held, the frame is still not accepted. -/
def State.accepted (s : State) : Bool := s.here.chan.response.isSome || decide (s.here.seq ≠ .idle)

/-- After a first unit: an accepted frame is no longer shown; one whose unit held stays, to be retried (R8). -/
def acceptAfter (o : Result) : Result :=
  match o with
  | .next t => .next (if t.accepted then t.dropFrame else t)
  | .fault r => .fault r
  | .refused r => .refused r

/-- Run a frame at the port of this step: a legal one is its command, an illegal one is answered (R76, R181, R184). -/
def runFrame (f : Frame) (s : State) : Result :=
  match decode s.env.params.tsW f with
  | .ok i => acceptAfter (exec i s)
  | .error _ => acceptAfter (answerIllegal s)

/-- The sequencer at IDLE: it accepts a frame only when the previous response on the port has been delivered (R27);
with nothing to accept it takes no step (R191), so that its turn changes nothing (log 17). -/
def runIdle (s : State) : Result :=
  match s.here.chan.response, s.here.chan.frame with
  | some _, _ => hold s
  | none, none => hold s
  | none, some f => runFrame f s

/-- The turn of the sequencer of this step's port: at IDLE it may accept a frame; otherwise the TICK in progress, whose
timestamp is TSL[p] (R28), goes on. -/
def runSequencer (s : State) : Result :=
  match s.here.seq with
  | .idle => runIdle s
  | _ => exec (.tick s.here.tsl) s

/-- A port at reset: its sequencer and latches as after reset; the frames in flight are its issuer's (R32, log 15). -/
def Port.onReset (x : Port) : Port := { Port.reset with chan := x.chan }

/-- The reset input (R200, R201): every state element at its reset value, every command in progress aborted with no
response; an asserted select is deasserted. -/
def State.applyReset (s : State) : State :=
  { State.reset with
    ports := s.ports.map Port.onReset
    env :=
      { params := s.env.params
        inputs := s.env.inputs
        port := 0
        answer := none
        stream := if s.sel then s.env.stream ++ [.selDeassert] else s.env.stream } }

/-- The port a move is made at. -/
def Move.port : Move → Nat
  | .present p _ => p
  | .withdraw p => p
  | .take p => p
  | .run p _ => p

/-- The input that gives port p its turn, with what the transport completes in it. -/
def Input.turn (p : Nat) (a : Option TxAnswer) : Input := { reset := false, move := .run p a }

/-- One move, at a port that exists. -/
def applyMove (m : Move) (s : State) : Result :=
  match m with
  | .present p f => .next (s.present p f)
  | .withdraw p => .next (s.withdraw p)
  | .take p => .next (s.takeResponse p)
  | .run p a => runSequencer (s.turn p a)

/-- One input: reset comes before everything (R184, R201); a move at a port beyond NPORTS is none of this machine's. -/
def applyInput (i : Input) (s : State) : Result :=
  match i.reset with
  | true => .next s.applyReset
  | false => if i.move.port < s.nports then applyMove i.move s else .refused (.noSuchPort i.move.port)

/-- The inputs still to come. -/
def State.withInputs (s : State) (l : List Input) : State := { s with env := { s.env with inputs := l } }

/-- The next step of the total order of R59: the first input is made; with no input no agent moves. -/
def nextStep (s : State) : Result :=
  match s.env.inputs with
  | [] => .next s
  | i :: rest => applyInput i (s.withInputs rest)

/-- Show a frame at port 0, ready to be accepted there, and give port 0's sequencer the next turn. -/
def State.placeFrame (s : State) (f : Frame) : State :=
  (s.setPort 0 { s.portAt 0 with seq := .idle, chan := { frame := some f, response := none } }).withInputs
    ({ reset := false, move := .run 0 none } :: s.env.inputs)

end Sys2Proof.Machine
end

