-- ==== Sys2Proof/Machine/Step.lean ====
section
/-! DEFINITION. One step of the machine, and where its next command stands. -/

namespace Sys2Proof.Machine

/-- One step: one atomic unit, or one move of an agent around the block (R56, R59). -/
def step (s : State) : Host.Outcome State Fault Refusal := nextStep s

/-- The state whose next step takes this table word's frame at port 0 and runs it. -/
def State.withFetchWord (s : State) (nbits w : Nat) : State :=
  s.placeFrame (tableFrame s.env.params.tsW nbits w)

end Sys2Proof.Machine
end

