-- ==== Sys2Proof/Machine/Assembler.lean ====
section
/-! DEFINITION. The assembler syntax and the pseudo-instructions (30_encoding.md R82, R83), on lines as lists of characters. -/

namespace Sys2Proof.Machine

/-- Why a line emits no frame ("an assembly error", R82). -/
inductive AsmError where
  /-- The first word is no mnemonic of R82 or R83. -/
  | unknownMnemonic
  /-- An operand is no decimal number and no `0x` hex number. -/
  | badNumber
  /-- The mnemonic does not take this many operands. -/
  | operandCount
  /-- An operand is out of its range. -/
  | outOfRange
deriving DecidableEq, Repr

/-- Blanks between words: space and tab (log 21). -/
def isBlank (c : Char) : Bool := c == ' ' || c == '\t'

/-- "A comment runs from `;` to the end of the line" (R82). -/
def stripComment (l : List Char) : List Char := l.takeWhile fun c => c != ';'

/-- A text without the blanks around it. -/
def trimBlanks (l : List Char) : List Char := ((l.dropWhile isBlank).reverse.dropWhile isBlank).reverse

/-- The parts of a text between separators: one part more than it has separators. -/
def splitAtChar (sep : Char) : List Char → List (List Char)
  | [] => [[]]
  | c :: cs =>
    if c = sep then [] :: splitAtChar sep cs
    else
      match splitAtChar sep cs with
      | [] => [[c]]
      | part :: parts => (c :: part) :: parts

/-- The value of a digit in a base of at most 16. -/
def digitValue (base : Nat) (c : Char) : Option Nat :=
  let v :=
    if '0'.toNat ≤ c.toNat ∧ c.toNat ≤ '9'.toNat then some (c.toNat - '0'.toNat)
    else if 'a'.toNat ≤ c.toNat ∧ c.toNat ≤ 'f'.toNat then some (c.toNat - 'a'.toNat + 10)
    else if 'A'.toNat ≤ c.toNat ∧ c.toNat ≤ 'F'.toNat then some (c.toNat - 'A'.toNat + 10)
    else none
  v.filter fun d => decide (d < base)

/-- The number these digits add to `acc`, most significant digit first. -/
def digitsValue (base acc : Nat) : List Char → Option Nat
  | [] => some acc
  | c :: cs => (digitValue base c).bind fun d => digitsValue base (acc * base + d) cs

/-- "A number is decimal, or hex with `0x`" (R82). -/
def parseNumber (l : List Char) : Option Nat :=
  match l with
  | [] => none
  | '0' :: 'x' :: c :: cs => digitsValue 16 0 (c :: cs)
  | c :: cs => digitsValue 10 0 (c :: cs)

/-- The numbers of operand texts; none if one of them is no number. -/
def parseNumbers : List (List Char) → Option (List Nat)
  | [] => some []
  | o :: os => (parseNumber (trimBlanks o)).bind fun n => (parseNumbers os).map fun ns => n :: ns

/-- The operands of a line: nothing, or numbers "separated by commas" (R82). -/
def parseOperands (l : List Char) : Option (List Nat) :=
  match trimBlanks l with
  | [] => some []
  | c :: cs => parseNumbers (splitAtChar ',' (c :: cs))

/-- The mnemonics of R82 and the pseudo-instructions of R83, in upper case. -/
inductive Mnemonic where
  | gate | rwrite | rdpkt | rstcur | tick | seten | enable | disable
deriving DecidableEq, Repr

/-- The mnemonic a word spells. -/
def mnemonicOf (w : List Char) : Option Mnemonic :=
  if w = ['G', 'A', 'T', 'E'] then some .gate
  else if w = ['R', 'W', 'R', 'I', 'T', 'E'] then some .rwrite
  else if w = ['R', 'D', 'P', 'K', 'T'] then some .rdpkt
  else if w = ['R', 'S', 'T', 'C', 'U', 'R'] then some .rstcur
  else if w = ['T', 'I', 'C', 'K'] then some .tick
  else if w = ['S', 'E', 'T', 'E', 'N'] then some .seten
  else if w = ['E', 'N', 'A', 'B', 'L', 'E'] then some .enable
  else if w = ['D', 'I', 'S', 'A', 'B', 'L', 'E'] then some .disable
  else none

/-- A timestamp operand: `0 <= ts <= 2^TS_W - 1` (R82). -/
def asmTimestamp (tsW ts : Nat) : Except AsmError Nat :=
  if ts < 2 ^ tsW then .ok ts else .error .outOfRange

/-- An axis operand: `0 .. 0xFFFF`, the raw 16-bit pattern (R82). -/
def asmAxisValues (gx gy gz ax ay az : Nat) : Except AsmError AxisValues :=
  if gx < 65536 ∧ gy < 65536 ∧ gz < 65536 ∧ ax < 65536 ∧ ay < 65536 ∧ az < 65536 then
    .ok { gx := BitVec.ofNat 16 gx, gy := BitVec.ofNat 16 gy, gz := BitVec.ofNat 16 gz
          ax := BitVec.ofNat 16 ax, ay := BitVec.ofNat 16 ay, az := BitVec.ofNat 16 az }
  else .error .outOfRange

/-- The operand of SETEN: `e in {0, 1}` (R82). -/
def asmEnable (e : Nat) : Except AsmError Bool :=
  match e with
  | 0 => .ok false
  | 1 => .ok true
  | _ => .error .outOfRange

/-- The command of a mnemonic and its operands (R82); `ENABLE` is `SETEN 1` and `DISABLE` is `SETEN 0` (R83). -/
def asmCommand (tsW : Nat) (m : Mnemonic) (operands : List Nat) : Except AsmError Instr :=
  match m, operands with
  | .gate, [ts] => (asmTimestamp tsW ts).map .gate
  | .rwrite, [gx, gy, gz, ax, ay, az] => (asmAxisValues gx gy gz ax ay az).map .rwrite
  | .rdpkt, [] => .ok .rdpkt
  | .rstcur, [] => .ok .rstcur
  | .tick, [ts] => (asmTimestamp tsW ts).map .tick
  | .seten, [e] => (asmEnable e).map .seten
  | .enable, [] => .ok (.seten true)
  | .disable, [] => .ok (.seten false)
  | _, _ => .error .operandCount

/-- Assemble one line (R82): no frame for a line without a command, the frame of R73 for a command, an error and no
frame otherwise. -/
def assembleLine (tsW : Nat) (line : List Char) : Except AsmError (Option Frame) :=
  match trimBlanks (stripComment line) with
  | [] => .ok none
  | c :: cs =>
    match mnemonicOf ((c :: cs).takeWhile fun x => !isBlank x), parseOperands ((c :: cs).dropWhile fun x => !isBlank x) with
    | none, _ => .error .unknownMnemonic
    | some _, none => .error .badNumber
    | some m, some operands => (asmCommand tsW m operands).map fun i => some (encode tsW i)

end Sys2Proof.Machine
end

