-- ==== Sys2Proof/Machine/Fairness.lean ====
section
/-! DEFINITION. Runs without end, and the liveness assumptions of R192 as predicates on them: weak fairness over sequencers,
the release of LOCK, and the transport's completions. They are premises of claims; no step reads them (log 33). -/

namespace Sys2Proof.Machine

/-! ### When a unit can run -/

/-- The command's one unit is a ring unit, which LOCK = 1 makes hold (R60). -/
def takesLock : Instr → Bool
  | .rwrite _ => true
  | .rdpkt => true
  | .rstcur => true
  | .gate _ => false
  | .tick _ => false
  | .seten _ => false

/-- A frame's first unit, or its ILLEGAL answer, can run now (R60, R181). -/
def State.frameAbleToRun (s : State) (f : Frame) : Bool :=
  match decode s.env.params.tsW f with
  | .ok i => !(takesLock i && s.lock)
  | .error _ => true

/-- The unit at which port p's sequencer stands can run now: its turn, without a completion of the transport, would not
hold (R8, R10). This is the model's reading of "able to run" in R192 (log 33, DEDUCED). At IDLE that takes a frame and a delivered response (R27); at T_XPORT a free transport (R153); at T_WRITE a free
LOCK (R60). U_T2 and U_T3 are steps that the transport makes jointly (R154, log 13): T_ADDR and T_READ count as never
able, and `TransportCompletes` speaks of them. -/
def State.ableToRun (s : State) (p : Nat) : Bool :=
  match (s.portAt p).seq with
  | .idle =>
    match (s.portAt p).chan.response, (s.portAt p).chan.frame with
    | some _, _ => false
    | none, none => false
    | none, some f => s.frameAbleToRun f
  | .tXport => s.xportOwner.isNone
  | .tAddr => false
  | .tRead => false
  | .tDesel => true
  | .tWrite => !s.lock

/-! ### Runs -/

/-- A run without end: the states in order, and the input made in each; `none` where no agent moves. It is one step of the
machine after another, each reading the one input that is made in it. -/
def IsRun (states : Nat → State) (inputs : Nat → Option Input) : Prop :=
  ∀ n, step ((states n).withInputs (inputs n).toList) = .next (states (n + 1))

/-- Port p's sequencer takes its turn in step n. -/
def TakesTurn (inputs : Nat → Option Input) (p n : Nat) : Prop := ∃ a, inputs n = some (.turn p a)

/-- Reset is asserted in step n. -/
def ResetAt (inputs : Nat → Option Input) (n : Nat) : Prop := ∃ m, inputs n = some { reset := true, move := m }

/-- Reset is not asserted in step n or later. -/
def NoResetFrom (inputs : Nat → Option Input) (n : Nat) : Prop := ∀ m, n ≤ m → ¬ ResetAt inputs m

/-! ### The three assumptions of R192 -/

/-- R192 (a): "a unit that stays able to run eventually runs", in the model's reading of "able to run" (log 33). -/
def WeaklyFair (states : Nat → State) (inputs : Nat → Option Input) : Prop :=
  ∀ p n, p < (states n).nports → (∀ m, n ≤ m → (states m).ableToRun p = true) → ∃ m, n ≤ m ∧ TakesTurn inputs p m

/-- R192 (b): LOCK is released, whenever it is held. -/
def LockReleased (states : Nat → State) : Prop := ∀ n, ∃ m, n ≤ m ∧ (states m).lock = false

/-- R192 (c): "The transport completes every TxWrite and TxRead it is given": whenever port p stands at T_ADDR or T_READ,
a later turn of p carries the completion, unless reset has taken the request back (R201). -/
def TransportCompletes (states : Nat → State) (inputs : Nat → Option Input) : Prop :=
  ∀ p n, p < (states n).nports →
    (((states n).portAt p).seq = .tAddr → ∃ m, n ≤ m ∧ (ResetAt inputs m ∨ inputs m = some (.turn p (some .taken)))) ∧
    (((states n).portAt p).seq = .tRead →
      ∃ m, n ≤ m ∧ (ResetAt inputs m ∨ ∃ r, inputs m = some (.turn p (some (.bytes r)))))

/-- The three together: what "every claim that a command completes rests on" (R192). -/
def LivenessAssumptions (states : Nat → State) (inputs : Nat → Option Input) : Prop :=
  WeaklyFair states inputs ∧ LockReleased states ∧ TransportCompletes states inputs

end Sys2Proof.Machine
end

