-- ==== Sys2Proof/Safety.lean ====
section
/-! DEFINITION. The terms the statements use: what a port shows, what an invariant of the machine is, runs of commands. -/

namespace Sys2Proof.Machine

/-- `seq[p]`. -/
def State.seqAt (s : State) (p : Nat) : Phase := (s.portAt p).seq

/-- `TSL[p]`. -/
def State.tslAt (s : State) (p : Nat) : Nat := (s.portAt p).tsl

/-- `RXB[p]`. -/
def State.rxbAt (s : State) (p : Nat) : XferBytes := (s.portAt p).rxb

/-- The frame shown at port p and not accepted. -/
def State.frameAt (s : State) (p : Nat) : Option Frame := (s.portAt p).chan.frame

/-- The response standing at port p. -/
def State.responseAt (s : State) (p : Nat) : Option Frame := (s.portAt p).chan.response

/-- A phase in which a TICK holds the transport: after U_T1 and before U_T4 (R153, R155). -/
def Phase.holdsTransport : Phase → Bool
  | .tAddr => true
  | .tRead => true
  | .tDesel => true
  | .idle => false
  | .tXport => false
  | .tWrite => false

/-- The invariant of the machine: the parameters are in their ranges (R5); there is a port (R5); LAST_TS and every TSL
fit TS_W bits (R21, R28); LOCK is free between steps (R25); SEL is asserted exactly while the transport has an owner
(R26); the owner is a port, and exactly the owner's sequencer is in a transport phase (R153, R155); a port whose
command is in progress has no response standing (R27). -/
abbrev State.Inv (s : State) : Prop :=
  s.env.params.Valid ∧ 1 ≤ s.nports ∧ s.lastTs < 2 ^ s.env.params.tsW ∧
  (∀ p, p < s.nports → s.tslAt p < 2 ^ s.env.params.tsW) ∧
  s.lock = false ∧ s.sel = s.xportOwner.isSome ∧
  (∀ q, s.xportOwner = some q → q < s.nports) ∧
  (∀ p, p < s.nports → ((s.seqAt p).holdsTransport = true ↔ s.xportOwner = some p)) ∧
  (∀ p, p < s.nports → s.seqAt p ≠ .idle → s.responseAt p = none)

/-- No element of R20's list differs: what the block holds is the same in both states. -/
def SameElements (s t : State) : Prop :=
  t.lastTs = s.lastTs ∧ t.enabled = s.enabled ∧ t.cursor = s.cursor ∧ t.ring = s.ring ∧ t.lock = s.lock ∧
  t.xportOwner = s.xportOwner ∧ t.sel = s.sel ∧ t.nports = s.nports ∧
  ∀ p, t.seqAt p = s.seqAt p ∧ t.tslAt p = s.tslAt p ∧ t.rxbAt p = s.rxbAt p

/-- Every port is the same in both states but port p. -/
def SamePortsBut (p : Nat) (s t : State) : Prop :=
  t.nports = s.nports ∧ ∀ q, q ≠ p → t.portAt q = s.portAt q

/-- From s to t the port of this step got the response f, and nothing else of any port changed. -/
def AnsweredHere (f : Frame) (s t : State) : Prop :=
  SamePortsBut s.env.port s t ∧ t.responseAt s.env.port = some f ∧ t.frameAt s.env.port = s.frameAt s.env.port ∧
  t.seqAt s.env.port = s.seqAt s.env.port ∧ t.tslAt s.env.port = s.tslAt s.env.port ∧
  t.rxbAt s.env.port = s.rxbAt s.env.port

/-- From s to t the frame and the response at the port of this step stayed, its sequencer went to phase ph, and nothing
of any other port changed. -/
def WentTo (ph : Phase) (s t : State) : Prop :=
  SamePortsBut s.env.port s t ∧ t.seqAt s.env.port = ph ∧ t.responseAt s.env.port = s.responseAt s.env.port ∧
  t.frameAt s.env.port = s.frameAt s.env.port

/-- LAST_TS, ENABLED, CURSOR, RING and LOCK are the same in both states. -/
def SameScalarsAndRing (s t : State) : Prop :=
  t.lastTs = s.lastTs ∧ t.enabled = s.enabled ∧ t.cursor = s.cursor ∧ t.ring = s.ring ∧ t.lock = s.lock

/-- XPORT_OWNER and SEL are the same in both states. -/
def SameTransport (s t : State) : Prop := t.xportOwner = s.xportOwner ∧ t.sel = s.sel

/-- R102 written out: the timestamp is new, and the forward difference of R101 exceeds the threshold. -/
abbrev GatePasses (P : Params) (last ts : Nat) : Prop :=
  ts ≠ last ∧ P.gateThreshold < (if ts < last then (2 ^ P.tsW - 1 - last) + ts else ts - last)

/-- The cursor after a ring write, as R120 counts it. -/
def AdvancedCursor (s t : State) : Prop := t.cursor.val = if s.cursor.val < 2 then s.cursor.val + 1 else 2

/-- From s to t one whole generation was written: the one at CURSOR, all six axes of it, and no other entry (R121). -/
def WroteGeneration (v : AxisValues) (s t : State) : Prop :=
  ∀ a g, t.ring.entry a g = if g = s.cursor then v.get a else s.ring.entry a g

/-- Commands one after the other at the port of this step, each at the state the one before it left. -/
def execAll : List Instr → State → Result
  | [], s => .next s
  | i :: is, s =>
    match exec i s with
    | .next t => execAll is t
    | .fault r => .fault r
    | .refused r => .refused r

/-- One unit of one command, at one port, with what the transport completes in it. -/
structure PortUnit where
  port : Nat
  command : Instr
  answer : Option TxAnswer
deriving DecidableEq, Repr

/-- Run one unit at its port. -/
def PortUnit.run (u : PortUnit) (s : State) : Result := exec u.command (s.turn u.port u.answer)

/-- The values the unit writes to the ring, if it is a ring write that does not hold: RWRITE's operand, or the sample of a
TICK that stands at T_WRITE (R57: U_RW, U_T5). -/
def PortUnit.ringWrite (u : PortUnit) (s : State) : Option AxisValues :=
  match s.lock, u.command with
  | true, _ => none
  | false, .rwrite v => some v
  | false, .tick _ => if s.seqAt u.port = .tWrite then some (tickValues (s.rxbAt u.port)) else none
  | false, .gate _ => none
  | false, .rdpkt => none
  | false, .rstcur => none
  | false, .seten _ => none

/-- Units one after the other, in any order of ports and commands (R59). -/
def execUnits : List PortUnit → State → Result
  | [], s => .next s
  | u :: us, s =>
    match u.run s with
    | .next t => execUnits us t
    | .fault r => .fault r
    | .refused r => .refused r

/-- The ring writes among these units, in order. -/
def ringWrites : List PortUnit → State → List AxisValues
  | [], _ => []
  | u :: us, s =>
    match u.run s with
    | .next t => (u.ringWrite s).toList ++ ringWrites us t
    | .fault _ => []
    | .refused _ => []

/-- A move of an agent at another port than p, one that exists, with no reset. -/
def Input.elsewhere (p nports : Nat) (i : Input) : Prop := i.reset = false ∧ i.move.port ≠ p ∧ i.move.port < nports

/-- k steps, stopping where one does not answer a next state. -/
def runSteps : Nat → State → Result
  | 0, s => .next s
  | k + 1, s =>
    match step s with
    | .next t => runSteps k t
    | .fault r => .fault r
    | .refused r => .refused r

/-- From step n on, the TICK at port p does its ring write, which answers 0x02 and makes the port idle (R156). -/
def TickEndsFrom (states : Nat → State) (p n : Nat) : Prop :=
  ∃ m, n ≤ m ∧ (states m).seqAt p = .tWrite ∧ (states (m + 1)).seqAt p = .idle ∧
    (states (m + 1)).responseAt p = some [0x02]

/-- From step n on, the TICK at port p stands at T_XPORT for ever, and the transport has an owner again and again. -/
def WaitsForOwnerFrom (states : Nat → State) (p n : Nat) : Prop :=
  ∀ m, n ≤ m → (states m).seqAt p = .tXport ∧ ∃ k, m ≤ k ∧ (states k).xportOwner ≠ none

/-- From some step at n or later on, port p stands in phase ph for ever. -/
def StandsForEver (states : Nat → State) (p n : Nat) (ph : Phase) : Prop :=
  ∃ m, n ≤ m ∧ ∀ k, m ≤ k → (states k).seqAt p = ph

/-- A step that completes: it answers a next state. -/
def Completes (o : Result) : Prop := ∃ t, o = .next t

end Sys2Proof.Machine
end

