-- ==== Sys2Proof/Certificates/Slice0/Obligations.lean ====
section
/-! DEFINITION. The statements for the provers, each from a rule of spec/ that its docstring names. -/

open Sys2Proof Sys2Proof.Machine

/-! ### Encoding -/

/-- R71 to R75: every well-formed command at every admitted timestamp width decodes back from its frame. -/
def Obligations.DecodeOfEncodeIsTheCommand : Prop :=
  ∀ (tsW : Nat) (i : Instr), i.wellFormed tsW = true → decode tsW (encode tsW i) = .ok i

/-- R71 to R76: a frame that decodes is the frame of its command, bit for bit, and the command is well-formed. -/
def Obligations.EncodeOfDecodeIsTheFrame : Prop :=
  ∀ (tsW : Nat) (f : Frame) (i : Instr), decode tsW f = .ok i → encode tsW i = f ∧ i.wellFormed tsW = true

/-- R76: a frame is legal if and only if the six checks hold. The timestamp of check 6 is the sum of R74. -/
def Obligations.FrameIsLegalWhenTheSixChecksHold : Prop :=
  ∀ (tsW : Nat) (f : Frame),
    (∃ i, decode tsW f = .ok i) ↔
      ∃ (h : Byte) (payload : List Byte), f = h :: payload ∧
        h.toNat / 32 = 0 ∧
        (1 ≤ h.toNat % 16 ∧ h.toNat % 16 ≤ 6) ∧
        (h.toNat / 16 % 2 = 0 ∨ h.toNat % 16 = 6) ∧
        f.length =
          (if h.toNat % 16 = 1 ∨ h.toNat % 16 = 5 then 1 + (tsW + 7) / 8 else if h.toNat % 16 = 2 then 13 else 1) ∧
        (h.toNat % 16 = 1 ∨ h.toNat % 16 = 5 →
          ((List.range payload.length).map fun k => (payload.getD k 0).toNat * 2 ^ (8 * k)).sum < 2 ^ tsW)

/-- R77: exactly seven header values are legal with some payload, at every timestamp width. -/
def Obligations.ExactlySevenHeadersAreLegal : Prop :=
  ∀ (tsW : Nat) (h : Byte),
    (∃ payload i, decode tsW (h :: payload) = .ok i) ↔ h ∈ [0x01, 0x02, 0x03, 0x04, 0x05, 0x06, (0x16 : Byte)]

/-- R84: the spec's own frames decode to the commands they stand for, at TS_W = 32. -/
def Obligations.SpecExampleFramesDecode : Prop :=
  decode 32 [0x01, 0xB8, 0x0B, 0x00, 0x00] = .ok (.gate 3000) ∧
  decode 32 [0x05, 0x00, 0xF0, 0xFF, 0xFF] = .ok (.tick 0xFFFFF000) ∧
  decode 32 [0x02, 0x01, 0x02, 0x03, 0x04, 0x05, 0x06, 0xBC, 0xFE, 0xBA, 0x00, 0x19, 0x10] =
    .ok (.rwrite { gx := 0x0201, gy := 0x0403, gz := 0x0605, ax := 0xFEBC, ay := 0x00BA, az := 0x1019 }) ∧
  decode 32 [0x03] = .ok .rdpkt ∧
  decode 32 [0x04] = .ok .rstcur ∧
  decode 32 [0x16] = .ok (.seten true) ∧
  decode 32 [0x06] = .ok (.seten false)

/-- R74: the timestamp of a legal FT frame is the little-endian sum of its payload bytes, and a sum at or above
`2^TS_W` makes the frame illegal. -/
def Obligations.TimestampOperandIsTheLittleEndianSum : Prop :=
  ∀ (tsW : Nat) (payload : List Byte), payload.length = (tsW + 7) / 8 →
    ∀ ts, ts = ((List.range payload.length).map fun k => (payload.getD k 0).toNat * 2 ^ (8 * k)).sum →
      (ts < 2 ^ tsW → decode tsW (0x01 :: payload) = .ok (.gate ts) ∧ decode tsW (0x05 :: payload) = .ok (.tick ts)) ∧
      (2 ^ tsW ≤ ts → ∀ i, decode tsW (0x01 :: payload) ≠ .ok i ∧ decode tsW (0x05 :: payload) ≠ .ok i)

/-- R75: every 12-byte payload of an RWRITE frame is legal, and axis a's value is `B[2+2a] ++ B[1+2a]`. -/
def Obligations.AxisOperandsTakeTheirTwoBytes : Prop :=
  ∀ (tsW : Nat) (payload : List Byte), payload.length = 12 →
    ∃ v, decode tsW (0x02 :: payload) = .ok (.rwrite v) ∧
      ∀ a : Axis, (v.get a).toNat =
        (payload.getD (2 * a.number) 0).toNat + 256 * (payload.getD (2 * a.number + 1) 0).toNat

/-- R80: a decoder of a byte stream takes exactly the frame of a well-formed command, whatever follows it. -/
def Obligations.StreamDecoderTakesOneFrame : Prop :=
  ∀ (tsW : Nat) (i : Instr) (rest : List Byte), i.wellFormed tsW = true →
    takeFrame tsW (encode tsW i ++ rest) = (encode tsW i, rest)

/-- R82, R83 (what the text leaves open is the model's choice, log 21): every frame the assembler emits is legal, and the mnemonic at the start of the line names its command,
`ENABLE` and `DISABLE` being SETEN 1 and SETEN 0. -/
def Obligations.AssembledFramesDecode : Prop :=
  ∀ (tsW : Nat) (line : List Char) (f : Frame), assembleLine tsW line = .ok (some f) →
    ∃ m operands i, mnemonicOf ((trimBlanks (stripComment line)).takeWhile fun c => !isBlank c) = some m ∧
      parseOperands ((trimBlanks (stripComment line)).dropWhile fun c => !isBlank c) = some operands ∧
      asmCommand tsW m operands = .ok i ∧ decode tsW f = .ok i ∧
      (m = .enable → f = [0x16]) ∧ (m = .disable → f = [0x06])

/-! ### Rate gate -/

/-- R101: the two branches of the forward difference, their ranges, and their relation to the modular distance
(R104): equal to it, and one less across the wrap. -/
def Obligations.ForwardDifferenceFallsOneShortAcrossTheWrap : Prop :=
  ∀ (tsW last ts : Nat), last ≤ 2 ^ tsW - 1 → ts ≤ 2 ^ tsW - 1 →
    (ts < last → diff tsW last ts = (2 ^ tsW - 1 - last) + ts ∧ diff tsW last ts ≤ 2 ^ tsW - 1 - 1 ∧
      diff tsW last ts + 1 = (ts + 2 ^ tsW - last) % 2 ^ tsW) ∧
    (last ≤ ts → diff tsW last ts = ts - last ∧ diff tsW last ts ≤ 2 ^ tsW - 1 ∧
      diff tsW last ts = (ts + 2 ^ tsW - last) % 2 ^ tsW)

/-- R102: no pass on an equal timestamp; otherwise a pass exactly when the difference exceeds the threshold, strictly;
the stored timestamp becomes the new one on a pass and stays otherwise. -/
def Obligations.GateEvaluationIsStrict : Prop :=
  ∀ (tsW thr last ts : Nat),
    (ts = last → gateEval tsW thr last ts = (false, last)) ∧
    (ts ≠ last → thr < diff tsW last ts → gateEval tsW thr last ts = (true, ts)) ∧
    (ts ≠ last → diff tsW last ts ≤ thr → gateEval tsW thr last ts = (false, last))

/-- R105: the threshold's extremes. -/
def Obligations.ThresholdExtremes : Prop :=
  ∀ (tsW thr last ts : Nat), 1 ≤ tsW → last ≤ 2 ^ tsW - 1 → ts ≤ 2 ^ tsW - 1 →
    (2 ^ tsW - 1 ≤ thr → (gateEval tsW thr last ts).1 = false) ∧
    (thr = 2 ^ tsW - 1 - 1 → ((gateEval tsW thr last ts).1 = true ↔ last = 0 ∧ ts = 2 ^ tsW - 1)) ∧
    (thr = 0 → ((gateEval tsW thr last ts).1 = true ↔ ts ≠ last ∧ ¬(last = 2 ^ tsW - 1 ∧ ts = 0)))

/-- R100: GATE completes in every state. It passes exactly as R102 says, writes LAST_TS only then, answers 0x02 or 0x00,
and touches nothing else. -/
def Obligations.GateCommandWritesOnlyLastTimestamp : Prop :=
  ∀ (ts : Nat) (s : State), s.env.port < s.nports →
    ∃ t, exec (.gate ts) s = .next t ∧
      t.lastTs = (if GatePasses s.env.params s.lastTs ts then ts else s.lastTs) ∧
      AnsweredHere [if GatePasses s.env.params s.lastTs ts then 0x02 else 0x00] s t ∧
      t.enabled = s.enabled ∧ t.cursor = s.cursor ∧ t.ring = s.ring ∧ t.lock = s.lock ∧
      SameTransport s t ∧ t.env = s.env

/-- R58, R102: the same GATE twice: the second answers 0x00 and changes no state element. -/
def Obligations.RepeatedGateHasNoEffect : Prop :=
  ∀ (ts : Nat) (s t : State), s.env.port < s.nports → exec (.gate ts) s = .next t →
    ∃ u, exec (.gate ts) t = .next u ∧ SameElements t u ∧ u.responseAt s.env.port = some [0x00]

/-! ### Sample ring -/

/-- R121, R60: RWRITE holds while LOCK = 1, and completes whenever LOCK is free. It writes the generation at CURSOR of all six axes, advances CURSOR
and saturates at 2, answers 0x00, and touches nothing else. -/
def Obligations.RingWriteCommandWritesOneGeneration : Prop :=
  ∀ (v : AxisValues) (s : State), s.env.port < s.nports →
    (s.lock = true → exec (.rwrite v) s = .next s) ∧
    (s.lock = false →
      ∃ t, exec (.rwrite v) s = .next t ∧ WroteGeneration v s t ∧ AdvancedCursor s t ∧ AnsweredHere [0x00] s t ∧
        t.lastTs = s.lastTs ∧ t.enabled = s.enabled ∧ t.lock = false ∧ SameTransport s t ∧ t.env = s.env)

/-- R123, R60: RDPKT holds while LOCK = 1, and completes whenever LOCK is free: it answers 0x00 and the 36 bytes of one snapshot, and no element
changes. -/
def Obligations.ReadPacketAnswersOneSnapshot : Prop :=
  ∀ (s : State), s.env.port < s.nports →
    (s.lock = true → exec .rdpkt s = .next s) ∧
    (s.lock = false →
      ∃ t, exec .rdpkt s = .next t ∧ AnsweredHere (0x00 :: s.ring.ser) s t ∧ SameElements s t ∧ t.env = s.env)

/-- R124, R202, R60: RSTCUR holds while LOCK = 1, and completes whenever LOCK is free: CURSOR becomes 0, RING, LAST_TS and ENABLED stay. -/
def Obligations.ResetCursorKeepsTheRing : Prop :=
  ∀ (s : State), s.env.port < s.nports →
    (s.lock = true → exec .rstcur s = .next s) ∧
    (s.lock = false →
      ∃ t, exec .rstcur s = .next t ∧ t.cursor = 0 ∧ AnsweredHere [0x00] s t ∧ t.ring = s.ring ∧
        t.lastTs = s.lastTs ∧ t.enabled = s.enabled ∧ t.lock = false ∧ SameTransport s t ∧ t.env = s.env)

/-- R122: the packet has 36 bytes, and axis ORDER[j] of generation g stands at 12g + 2j, low byte then high byte. -/
def Obligations.PacketLayout : Prop :=
  ∀ (r : Ring), r.ser.length = 36 ∧
    ∀ (g : Fin 3) (j : Nat) (a : Axis), [Axis.ay, .ax, .az, .gy, .gx, .gz][j]? = some a →
      ∃ b0 b1, r.ser[12 * g.val + 2 * j]? = some b0 ∧ r.ser[12 * g.val + 2 * j + 1]? = some b1 ∧
        b0.toNat = (r.entry a g).toNat % 256 ∧ b1.toNat = (r.entry a g).toNat / 256

/-- R122, R126: the packet determines the ring: no two rings have the same packet. -/
def Obligations.PacketDeterminesTheRing : Prop :=
  ∀ (r q : Ring), r.ser = q.ser → r = q

/-- R125: any units of any commands but RSTCUR, at any ports in any order, complete from CURSOR = 0 and LOCK = 0. Of the
ring writes among them, RWRITE's and TICK's U_T5 alike, generation 0 holds the first, generation 1 the second, generation
2 the last of three or more; what no write reached keeps its contents; CURSOR is the smaller of their number and 2. -/
def Obligations.RingFreezesWhenTheCursorSaturates : Prop :=
  ∀ (us : List PortUnit) (s : State) (ws : List AxisValues), s.lock = false → s.cursor = 0 →
    (∀ u ∈ us, u.command ≠ .rstcur) → ringWrites us s = ws →
    ∃ t, execUnits us s = .next t ∧ t.cursor.val = min ws.length 2 ∧
      (∀ a, t.ring.entry a 0 = ((ws[0]?).map fun w => w.get a).getD (s.ring.entry a 0)) ∧
      (∀ a, t.ring.entry a 1 = ((ws[1]?).map fun w => w.get a).getD (s.ring.entry a 1)) ∧
      (3 ≤ ws.length → ∀ w, ws.getLast? = some w → ∀ a, t.ring.entry a 2 = w.get a) ∧
      (ws.length < 3 → ∀ a, t.ring.entry a 2 = s.ring.entry a 2)

/-- R58: RDPKT, RSTCUR, SETEN, and RWRITE at CURSOR = 2 leave at the second time what the first left. -/
def Obligations.IdempotentCommands : Prop :=
  ∀ (i : Instr) (s t : State),
    (i = .rdpkt ∨ i = .rstcur ∨ (∃ e, i = .seten e) ∨ (∃ v, i = .rwrite v ∧ s.cursor = 2)) →
    exec i s = .next t → exec i t = .next t

/-! ### Acquisition and enable -/

/-- R157: SETEN completes in every state: ENABLED takes e, the answer is 0x00, and nothing else changes. -/
def Obligations.SetEnableWritesOnlyEnabled : Prop :=
  ∀ (e : Bool) (s : State), s.env.port < s.nports →
    ∃ t, exec (.seten e) s = .next t ∧ t.enabled = e ∧ AnsweredHere [0x00] s t ∧ t.lastTs = s.lastTs ∧
      t.cursor = s.cursor ∧ t.ring = s.ring ∧ t.lock = s.lock ∧ SameTransport s t ∧ t.env = s.env

/-- R152: U_T0 at an IDLE port. Disabled: answer 0x00 and nothing else. Enabled and no pass: the same. Enabled and a
pass: LAST_TS and TSL take the timestamp, the sequencer goes to T_XPORT, and there is no answer yet. -/
def Obligations.TickStartsOnlyOnAnEnabledGatePass : Prop :=
  ∀ (ts : Nat) (s : State), s.env.port < s.nports → s.seqAt s.env.port = .idle →
    ∃ t, exec (.tick ts) s = .next t ∧ t.enabled = s.enabled ∧ t.cursor = s.cursor ∧ t.ring = s.ring ∧
      t.lock = s.lock ∧ SameTransport s t ∧ t.env = s.env ∧
      (if s.enabled = true ∧ GatePasses s.env.params s.lastTs ts then
        t.lastTs = ts ∧ WentTo .tXport s t ∧ t.tslAt s.env.port = ts ∧ t.rxbAt s.env.port = s.rxbAt s.env.port
      else t.lastTs = s.lastTs ∧ AnsweredHere [0x00] s t)

/-- R153: U_T1 holds while the transport has an owner; otherwise this port owns it, SEL is asserted, and the sequencer
goes to T_ADDR. The record of what the transport saw is the model's own (log 14). -/
def Obligations.TickTakesTheTransportOrHolds : Prop :=
  ∀ (ts : Nat) (s : State), s.env.port < s.nports → s.seqAt s.env.port = .tXport →
    (s.xportOwner ≠ none → exec (.tick ts) s = .next s) ∧
    (s.xportOwner = none →
      ∃ t, exec (.tick ts) s = .next t ∧ t.xportOwner = some s.env.port ∧ t.sel = true ∧ WentTo .tAddr s t ∧
        t.tslAt s.env.port = s.tslAt s.env.port ∧ t.rxbAt s.env.port = s.rxbAt s.env.port ∧ SameScalarsAndRing s t ∧
        t.env = { s.env with stream := s.env.stream ++ [.selAssert] })

/-- R154: U_T2 holds until the transport takes the address byte, and then has written exactly GYRO_ADDR_BYTE; U_T3 holds
until the transport answers, and then RXB holds its twelve bytes, whatever they are (R182). That a turn carries what the
transport completes in it is the model's form of the joint step (log 13), and the record is the model's own (log 14). -/
def Obligations.TickTransfersJointlyWithTheTransport : Prop :=
  ∀ (ts : Nat) (s : State), s.env.port < s.nports →
    (s.seqAt s.env.port = .tAddr →
      (s.env.answer ≠ some .taken → exec (.tick ts) s = .next s) ∧
      (s.env.answer = some .taken →
        ∃ t, exec (.tick ts) s = .next t ∧ WentTo .tRead s t ∧ t.tslAt s.env.port = s.tslAt s.env.port ∧
          t.rxbAt s.env.port = s.rxbAt s.env.port ∧ SameScalarsAndRing s t ∧ SameTransport s t ∧
          t.env = { s.env with stream := s.env.stream ++ [.write [s.env.params.gyroAddrByte]] })) ∧
    (s.seqAt s.env.port = .tRead →
      ((∀ r, s.env.answer ≠ some (.bytes r)) → exec (.tick ts) s = .next s) ∧
      ∀ r, s.env.answer = some (.bytes r) →
        ∃ t, exec (.tick ts) s = .next t ∧ WentTo .tDesel s t ∧ t.tslAt s.env.port = s.tslAt s.env.port ∧
          t.rxbAt s.env.port = r ∧ SameScalarsAndRing s t ∧ SameTransport s t ∧
          t.env = { s.env with stream := s.env.stream ++ [.read 12 r] })

/-- R155: U_T4 deasserts select and releases the transport, before the ring write. The record of what the transport saw is
the model's own (log 14). -/
def Obligations.TickReleasesTheTransport : Prop :=
  ∀ (ts : Nat) (s : State), s.env.port < s.nports → s.seqAt s.env.port = .tDesel →
    ∃ t, exec (.tick ts) s = .next t ∧ t.xportOwner = none ∧ t.sel = false ∧ WentTo .tWrite s t ∧
      t.tslAt s.env.port = s.tslAt s.env.port ∧ t.rxbAt s.env.port = s.rxbAt s.env.port ∧ SameScalarsAndRing s t ∧
      t.env = { s.env with stream := s.env.stream ++ [.selDeassert] }

/-- R156, R150, R81: U_T5 holds while LOCK = 1. Otherwise it writes the generation at CURSOR: the gyro axes from the first six bytes of RXB, low byte first,
the accel axes 0xFEBC, 0x00BA, 0x1019; it answers 0x02 and the sequencer is IDLE again. -/
def Obligations.TickWritesGyroBytesAndAccelConstants : Prop :=
  ∀ (ts : Nat) (s : State), s.env.port < s.nports → s.seqAt s.env.port = .tWrite →
    (s.lock = true → exec (.tick ts) s = .next s) ∧
    (s.lock = false →
      ∃ t v, exec (.tick ts) s = .next t ∧ WroteGeneration v s t ∧ AdvancedCursor s t ∧
        v.gx.toNat = (s.rxbAt s.env.port).r0.toNat + 256 * (s.rxbAt s.env.port).r1.toNat ∧
        v.gy.toNat = (s.rxbAt s.env.port).r2.toNat + 256 * (s.rxbAt s.env.port).r3.toNat ∧
        v.gz.toNat = (s.rxbAt s.env.port).r4.toNat + 256 * (s.rxbAt s.env.port).r5.toNat ∧
        v.ax = 0xFEBC ∧ v.ay = 0x00BA ∧ v.az = 0x1019 ∧
        SamePortsBut s.env.port s t ∧ t.seqAt s.env.port = .idle ∧ t.responseAt s.env.port = some [0x02] ∧
        t.frameAt s.env.port = s.frameAt s.env.port ∧ t.tslAt s.env.port = s.tslAt s.env.port ∧
        t.rxbAt s.env.port = s.rxbAt s.env.port ∧ t.lastTs = s.lastTs ∧ t.enabled = s.enabled ∧ t.lock = false ∧
        SameTransport s t ∧ t.env = s.env)

/-- R151: a TICK frame that an enabled machine accepts and whose gate passes completes in six turns of its port, one after
the other with no other move between, when the transport completes its two requests. The ring holds the sample at the CURSOR, the transport saw select, the address
byte, the 12-byte read and deselect, in this order, and the answer is 0x02. The turns and the record are the
model's own data (logs 9, 13, 14). -/
def Obligations.TickCompletesInSixTurns : Prop :=
  ∀ (s : State) (p ts : Nat) (f : Frame) (r : XferBytes) (rest : List Input),
    p < s.nports → s.seqAt p = .idle → s.responseAt p = none → s.frameAt p = some f →
    decode s.env.params.tsW f = .ok (.tick ts) → s.enabled = true → GatePasses s.env.params s.lastTs ts →
    s.lock = false → s.xportOwner = none →
    s.env.inputs =
      [none, none, some .taken, some (.bytes r), none, none].map (fun a => { reset := false, move := .run p a }) ++ rest →
    ∃ t, runSteps 6 s = .next t ∧
      t.lastTs = ts ∧ t.enabled = true ∧ WroteGeneration (tickValues r) s t ∧ AdvancedCursor s t ∧ t.lock = false ∧
      t.xportOwner = none ∧ t.sel = false ∧ SamePortsBut p s t ∧ t.seqAt p = .idle ∧ t.responseAt p = some [0x02] ∧
      t.frameAt p = none ∧ t.tslAt p = ts ∧ t.rxbAt p = r ∧ t.env.params = s.env.params ∧ t.env.inputs = rest ∧
      t.env.stream =
        s.env.stream ++ [.selAssert, .write [s.env.params.gyroAddrByte], .read 12 r, .selDeassert]

/-- R151, R59: the same TICK completes in its six turns whatever the other ports do between them. Before U_T1 has taken
the transport they make issuers' moves; after it they make any moves, their own sequencers' turns among them. The transport
sees the TICK's four operations with no other between, and the ring write goes where CURSOR stands at U_T5. The turns and
the record are the model's own data (logs 9, 13, 14). -/
def Obligations.TickCompletesAmongOtherPortsMoves : Prop :=
  ∀ (s : State) (p ts : Nat) (f : Frame) (r : XferBytes) (m1 m2 m3 m4 m5 rest : List Input),
    s.Inv → p < s.nports → s.seqAt p = .idle → s.responseAt p = none → s.frameAt p = some f →
    decode s.env.params.tsW f = .ok (.tick ts) → s.enabled = true → GatePasses s.env.params s.lastTs ts →
    s.xportOwner = none →
    (∀ i ∈ m1 ++ m2 ++ m3 ++ m4 ++ m5, i.elsewhere p s.nports) → (∀ i ∈ m1, ∀ q a, i.move ≠ .run q a) →
    s.env.inputs =
      .turn p none :: m1 ++ .turn p none :: m2 ++ .turn p (some .taken) :: m3 ++ .turn p (some (.bytes r)) :: m4 ++
        .turn p none :: m5 ++ .turn p none :: rest →
    ∃ w t, runSteps (5 + (m1 ++ m2 ++ m3 ++ m4 ++ m5).length) s = .next w ∧ step w = .next t ∧
      w.seqAt p = .tWrite ∧ WroteGeneration (tickValues r) w t ∧ AdvancedCursor w t ∧ SamePortsBut p w t ∧
      t.seqAt p = .idle ∧ t.responseAt p = some [0x02] ∧ t.frameAt p = none ∧ t.tslAt p = ts ∧ t.rxbAt p = r ∧
      t.env.inputs = rest ∧
      ∃ later, t.env.stream =
        s.env.stream ++ [.selAssert, .write [s.env.params.gyroAddrByte], .read 12 r, .selDeassert] ++ later

/-- R160: once past U_T0, no unit of a TICK depends on ENABLED or changes it. -/
def Obligations.EnableIsTakenOnce : Prop :=
  ∀ (ts : Nat) (e : Bool) (s t : State), s.seqAt s.env.port ≠ .idle → exec (.tick ts) s = .next t →
    exec (.tick ts) { s with enabled := e } = .next { t with enabled := e }

/-- R159: while ENABLED = 0, any number of TICKs with any timestamps change no state element, start no transport
activity, and are answered 0x00. -/
def Obligations.DisabledTicksChangeNothing : Prop :=
  ∀ (tss : List Nat) (s : State), s.env.port < s.nports → s.seqAt s.env.port = .idle → s.enabled = false →
    ∃ t, execAll (tss.map .tick) s = .next t ∧ SameElements s t ∧ t.env = s.env ∧
      (tss ≠ [] → t.responseAt s.env.port = some [0x00])

/-- R102, R152: of two TICKs with the same timestamp, the second finds an equal LAST_TS and ends without an
acquisition, at whichever idle port it runs. -/
def Obligations.SecondOfTwoEqualTicksFails : Prop :=
  ∀ (ts q : Nat) (s t : State), s.env.port < s.nports → q < s.nports → q ≠ s.env.port →
    s.seqAt s.env.port = .idle → s.seqAt q = .idle → s.enabled = true → GatePasses s.env.params s.lastTs ts →
    exec (.tick ts) s = .next t →
    ∃ u, exec (.tick ts) (t.turn q none) = .next u ∧ u.responseAt q = some [0x00] ∧ SameElements t u

/-- R205: an RSTCUR at another port, at any time after a TICK's gate-pass and before its ring write, sends that write to
generation 0. Between the RSTCUR and the TICK's U_T5 any units of any ports may run, the TICK's own among them, but no
other ring write. -/
def Obligations.ResetCursorRedirectsAPendingTick : Prop :=
  ∀ (ts p q : Nat) (a : Option TxAnswer) (us : List PortUnit) (s u w : State),
    p < s.nports → q < s.nports → q ≠ p → s.lock = false → s.seqAt p ≠ .idle →
    exec .rstcur (s.turn q none) = .next u → execUnits us u = .next w → ringWrites us u = [] → w.seqAt p = .tWrite →
    ∃ t, exec (.tick ts) (w.turn p a) = .next t ∧ t.cursor = 1 ∧
      ∀ x g, t.ring.entry x g = if g = 0 then (tickValues (w.rxbAt p)).get x else s.ring.entry x g

/-! ### The step -/

/-- R27, R56, R59: the step of an idle port that is shown a legal frame runs the frame's command at that port; the frame
is no longer shown once its first unit has run, and stays shown if the unit held, which is the model's reading of hold
(log 12). -/
def Obligations.StepRunsTheDecodedCommand : Prop :=
  ∀ (s t : State) (p : Nat) (a : Option TxAnswer) (rest : List Input) (f : Frame) (i : Instr),
    s.env.inputs = { reset := false, move := .run p a } :: rest → p < s.nports → s.seqAt p = .idle →
    s.responseAt p = none → s.frameAt p = some f → decode s.env.params.tsW f = .ok i →
    exec i ((s.withInputs rest).turn p a) = .next t →
    (t.responseAt p = none ∧ t.seqAt p = .idle → step s = .next t) ∧
    (t.responseAt p ≠ none ∨ t.seqAt p ≠ .idle →
      ∃ u, step s = .next u ∧ u.frameAt p = none ∧ SamePortsBut p t u ∧ u.responseAt p = t.responseAt p ∧
        SameElements t u ∧ u.env = t.env)

/-- R27, R28, R56: the step of a port whose TICK is in progress runs that TICK's next unit. That the step is exec of TICK
with the latched timestamp TSL[p] is the model's form of it (log 19, DEDUCED): no unit after U_T0 reads the timestamp. -/
def Obligations.StepContinuesTheTickInProgress : Prop :=
  ∀ (s : State) (p : Nat) (a : Option TxAnswer) (rest : List Input),
    s.env.inputs = { reset := false, move := .run p a } :: rest → p < s.nports → s.seqAt p ≠ .idle →
    step s = exec (.tick (s.tslAt p)) ((s.withInputs rest).turn p a)

/-- R181: the step of an idle port that is shown an illegal frame answers 0x01, changes no state element, leaves
the port IDLE and takes the frame. -/
def Obligations.IllegalFrameIsAnsweredAndChangesNothing : Prop :=
  ∀ (s : State) (p : Nat) (a : Option TxAnswer) (rest : List Input) (f : Frame) (e : DecodeError),
    s.env.inputs = { reset := false, move := .run p a } :: rest → p < s.nports → s.seqAt p = .idle →
    s.responseAt p = none → s.frameAt p = some f → decode s.env.params.tsW f = .error e →
    ∃ t, step s = .next t ∧ SameElements s t ∧ t.responseAt p = some [0x01] ∧ t.frameAt p = none ∧
      SamePortsBut p s t ∧ t.env.stream = s.env.stream ∧ t.env.params = s.env.params

/-- R27, R191, R212: at an idle port, while the previous response has not been taken, or with no frame shown, nothing is
accepted: the turn changes no state element. That such a turn is a step which changes nothing is the model's form (log 17),
and that a frame shown too early stays is the model's choice (log 11, DESIGN CHOICE): R212 does not oblige the block to
keep it. -/
def Obligations.NoFrameIsAcceptedBeforeTheResponseIsTaken : Prop :=
  ∀ (s : State) (p : Nat) (a : Option TxAnswer) (rest : List Input),
    s.env.inputs = { reset := false, move := .run p a } :: rest → p < s.nports → s.seqAt p = .idle →
    (s.responseAt p ≠ none ∨ s.frameAt p = none) →
    ∃ t, step s = .next t ∧ SameElements s t ∧ t.ports = s.ports ∧ t.env.stream = s.env.stream

/-- R200, R201: the reset input aborts whatever is in progress, at every port, with no response sent, and comes before
any unit of the same input. SEL is deasserted, the transport released, every element takes its reset value. That an
issuer's move of the same input is not made either is the model's choice (log 16, DESIGN CHOICE); that the deselect is
recorded is the model's own (log 14); that frames in flight stay with their issuers is the model's reading (log 15); TSL
and RXB are left out, their values being the model's choice (log 7). -/
def Obligations.ResetInputComesBeforeEverything : Prop :=
  ∀ (s : State) (m : Move) (rest : List Input), s.env.inputs = { reset := true, move := m } :: rest →
    ∃ t, step s = .next t ∧ t.lastTs = 0 ∧ t.enabled = false ∧ t.cursor = 0 ∧ (∀ a g, t.ring.entry a g = 0) ∧
      t.lock = false ∧ t.xportOwner = none ∧ t.sel = false ∧ t.nports = s.nports ∧
      (∀ p, t.seqAt p = .idle) ∧ (∀ p, t.responseAt p = s.responseAt p) ∧ (∀ p, t.frameAt p = s.frameAt p) ∧
      t.env.params = s.env.params ∧
      t.env.stream = s.env.stream ++ (if s.sel = true then [.selDeassert] else [])

/-- R200: what reset leaves. TSL and RXB are left out, their values being the model's choice (log 7); that State.reset has the
default parameters is the model's choice (log 1). -/
def Obligations.ResetLeavesEveryElementAtItsValue : Prop :=
  State.reset.lastTs = 0 ∧ State.reset.enabled = false ∧ State.reset.cursor = 0 ∧
  (∀ a g, State.reset.ring.entry a g = 0) ∧ State.reset.lock = false ∧ State.reset.xportOwner = none ∧
  State.reset.sel = false ∧ (∀ p, State.reset.seqAt p = .idle) ∧ State.reset.nports = 3 ∧
  State.reset.env.params.tsW = 32

/-- R127: right after reset the packet is 36 zero bytes. -/
def Obligations.PacketAfterResetIsZero : Prop :=
  State.reset.ring.ser = List.replicate 36 0

/-! ### The whole machine -/

/-- R200, R26, R27: the invariant holds after reset, whatever the open threshold is. -/
def Obligations.InvariantHoldsAfterReset : Prop := State.reset.Inv

/-- R21, R25, R26, R27, R28: every step keeps the invariant, from every state that has it. -/
def Obligations.EveryStepKeepsTheInvariant : Prop :=
  ∀ (s t : State), s.Inv → step s = .next t → t.Inv

/-- R24, R31, R57, R61: RING and CURSOR change in three ways only. A ring write, by the port of this step, of an RWRITE's
operand or of a TICK's sample, replaces the whole generation at CURSOR; RSTCUR sets CURSOR to 0; reset clears both. -/
def Obligations.RingChangesByWholeWritesOnly : Prop :=
  ∀ (s t : State), step s = .next t →
    (t.ring = s.ring ∧ t.cursor = s.cursor) ∨
    (∃ p a rest v, s.env.inputs = { reset := false, move := .run p a } :: rest ∧ p < s.nports ∧
      WroteGeneration v s t ∧ AdvancedCursor s t ∧
      ((s.seqAt p = .idle ∧ ∃ f, s.frameAt p = some f ∧ decode s.env.params.tsW f = .ok (.rwrite v)) ∨
        (s.seqAt p = .tWrite ∧ v = tickValues (s.rxbAt p)))) ∨
    (∃ p a rest f, s.env.inputs = { reset := false, move := .run p a } :: rest ∧ p < s.nports ∧
      s.seqAt p = .idle ∧ s.frameAt p = some f ∧ decode s.env.params.tsW f = .ok .rstcur ∧
      t.ring = s.ring ∧ t.cursor = 0) ∨
    (∃ m rest, s.env.inputs = { reset := true, move := m } :: rest ∧ (∀ a g, t.ring.entry a g = 0) ∧ t.cursor = 0)

/-- R21: only a gate-pass of a GATE, or of a TICK while ENABLED = 1, writes LAST_TS, and it writes the command's
timestamp; reset clears it. -/
def Obligations.OnlyAGatePassWritesLastTimestamp : Prop :=
  ∀ (s t : State), step s = .next t → t.lastTs ≠ s.lastTs →
    (∃ p a rest f ts, s.env.inputs = { reset := false, move := .run p a } :: rest ∧ s.seqAt p = .idle ∧
      s.frameAt p = some f ∧ GatePasses s.env.params s.lastTs ts ∧ t.lastTs = ts ∧
      (decode s.env.params.tsW f = .ok (.gate ts) ∨
        (decode s.env.params.tsW f = .ok (.tick ts) ∧ s.enabled = true))) ∨
    (∃ m rest, s.env.inputs = { reset := true, move := m } :: rest ∧ t.lastTs = 0)

/-- R22, R158: only SETEN changes ENABLED, to its operand, and reset disables. -/
def Obligations.OnlySetEnableChangesEnabled : Prop :=
  ∀ (s t : State), step s = .next t → t.enabled ≠ s.enabled →
    (∃ p a rest f, s.env.inputs = { reset := false, move := .run p a } :: rest ∧ s.seqAt p = .idle ∧
      s.frameAt p = some f ∧ decode s.env.params.tsW f = .ok (.seten t.enabled)) ∨
    (∃ m rest, s.env.inputs = { reset := true, move := m } :: rest ∧ t.enabled = false)

/-- R26, R187: only a TICK drives the transport, in its phases T_XPORT, T_ADDR, T_READ and T_DESEL; reset may deassert
select. The record of what the transport saw is the model's own (log 14). -/
def Obligations.OnlyATickDrivesTheTransport : Prop :=
  ∀ (s t : State), step s = .next t →
    (t.xportOwner ≠ s.xportOwner ∨ t.sel ≠ s.sel ∨ t.env.stream ≠ s.env.stream) →
    (∃ p a rest, s.env.inputs = { reset := false, move := .run p a } :: rest ∧
      (s.seqAt p = .tXport ∨ (s.seqAt p).holdsTransport = true)) ∨
    (∃ m rest, s.env.inputs = { reset := true, move := m } :: rest)

/-- R26, R153: at most one port's TICK is between U_T1 and U_T4. -/
def Obligations.TransportHasAtMostOneOwner : Prop :=
  ∀ (s : State) (p q : Nat), s.Inv → p < s.nports → q < s.nports →
    (s.seqAt p).holdsTransport = true → (s.seqAt q).holdsTransport = true → p = q ∧ s.sel = true

/-- R9, R189: a move at port p changes nothing of any other port. -/
def Obligations.AMoveLeavesOtherPortsAlone : Prop :=
  ∀ (s t : State) (m : Move) (rest : List Input), s.env.inputs = { reset := false, move := m } :: rest →
    step s = .next t → SamePortsBut m.port s t

/-- R59, R32: an issuer's own move, showing a frame or taking a response, changes no state element. -/
def Obligations.IssuerMovesChangeNoElement : Prop :=
  ∀ (s t : State) (m : Move) (rest : List Input), s.env.inputs = { reset := false, move := m } :: rest →
    (∀ p a, m ≠ .run p a) → step s = .next t → SameElements s t ∧ t.env.stream = s.env.stream

/-- R61, R78, R79: every response that a step newly sends is 0x00, 0x02, 0x01, or 0x00 followed by the 36 bytes of the
ring as it stood before the step. -/
def Obligations.EveryNewResponseIsOneOfFour : Prop :=
  ∀ (s t : State) (p : Nat) (f : Frame), step s = .next t → t.responseAt p ≠ s.responseAt p →
    t.responseAt p = some f →
    f = [0x00] ∨ f = [0x02] ∨ f = [0x01] ∨ (f = 0x00 :: s.ring.ser ∧ f.length = 37)

/-- R5, R203: the parameters and the number of ports are never changed by a step. -/
def Obligations.NoStepChangesTheParameters : Prop :=
  ∀ (s t : State), step s = .next t → t.env.params = s.env.params ∧ t.nports = s.nports

/-- R10, R180: a step always answers a next state, unless its input names a port that does not exist; that such an input
is refused is the model's choice (log 18). -/
def Obligations.NoStepStopsAtAnExistingPort : Prop :=
  ∀ (s : State),
    (∀ i rest, s.env.inputs = i :: rest → i.reset = true ∨ i.move.port < s.nports) → Completes (step s)

/-! ### Runs without end: the liveness assumptions of R192 -/

/-- The model's reading of "able to run" in R192 (log 33, DEDUCED): a port is able to run exactly when its turn without a
completion of the transport would not hold, that is, changes something beside the input it uses up. A port at T_ADDR or
T_READ counts as never able: its turn without a completion holds, and one that carries the completion is the transport's
joint step (log 13, DEDUCED), which this statement is not about. R10 says what a hold is. -/
def Obligations.AbleToRunIsNotHolding : Prop :=
  ∀ (s : State) (p : Nat), p < s.nports →
    (s.ableToRun p = false ↔ step (s.withInputs [.turn p none]) = .next ((s.withInputs []).turn p none))

/-- R59: every start of a run is the machine's own steps over the inputs made in it. That a run is a sequence of states and
inputs is the model's form (log 33). -/
def Obligations.StartOfARunIsStepsOfTheMachine : Prop :=
  ∀ (states : Nat → State) (inputs : Nat → Option Input) (k : Nat), IsRun states inputs →
    runSteps ((List.range k).filterMap inputs).length ((states 0).withInputs ((List.range k).filterMap inputs)) =
      .next ((states k).withInputs [])

/-- R192 (b), R25: every ring unit ends. In a run LOCK, once free, is free for ever, so it is released. The form of a run
and of the assumption is the model's (log 33, DEDUCED). -/
def Obligations.EveryRunKeepsLockFree : Prop :=
  ∀ (states : Nat → State) (inputs : Nat → Option Input) (n : Nat), IsRun states inputs → (states n).lock = false →
    (∀ m, n ≤ m → (states m).lock = false) ∧ LockReleased states

/-- R192 (a), R27: in a weakly fair run in which LOCK is released, a frame shown at an idle port whose previous response has
been taken is accepted, unless reset comes or the issuer withdraws it (log 32): some turn of the port answers it or starts
its TICK. What "able to run", and so weak fairness, means is the model's reading (log 33, DEDUCED). -/
def Obligations.FairRunAcceptsAShownFrame : Prop :=
  ∀ (states : Nat → State) (inputs : Nat → Option Input) (p n : Nat), IsRun states inputs →
    WeaklyFair states inputs → LockReleased states → NoResetFrom inputs n → p < (states n).nports →
    (states n).seqAt p = .idle → (states n).responseAt p = none → (states n).frameAt p ≠ none →
    (∀ m, n ≤ m → inputs m ≠ some { reset := false, move := .withdraw p }) →
    ∃ m, n ≤ m ∧ TakesTurn inputs p m ∧ (states m).seqAt p = .idle ∧ (states m).responseAt p = none ∧
      (states m).frameAt p ≠ none ∧ (states (m + 1)).frameAt p = none ∧
      ((states (m + 1)).responseAt p ≠ none ∨ (states (m + 1)).seqAt p = .tXport)

/-- R192: in a weakly fair run in which LOCK is released and no reset comes, a TICK past its gate-pass ends with the answer
0x02, or stands for ever where it waits for the transport: at T_ADDR or T_READ for a completion, or at T_XPORT while other
TICKs own the transport again and again. If the transport completes its requests, the first and the last are left. What
the assumptions mean on a run, and that weak fairness, as R192 words it, leaves the last, is the model's reading (log 33,
DEDUCED). -/
def Obligations.FairTickEndsOrWaitsForTheTransport : Prop :=
  ∀ (states : Nat → State) (inputs : Nat → Option Input) (p n : Nat), IsRun states inputs →
    WeaklyFair states inputs → LockReleased states → NoResetFrom inputs n →
    p < (states n).nports → (states n).seqAt p ≠ .idle →
    (TickEndsFrom states p n ∨ WaitsForOwnerFrom states p n ∨
      StandsForEver states p n .tAddr ∨ StandsForEver states p n .tRead) ∧
    (TransportCompletes states inputs → TickEndsFrom states p n ∨ WaitsForOwnerFrom states p n)

/-- R192, R182: a transport that does not complete hangs a TICK. With no completion for port p from step n on, and no reset,
a TICK at T_ADDR or T_READ stands there for ever, and no answer is sent. That the completion comes with a turn of the
port, and the form of a run, are the model's (logs 13, 33, DEDUCED). -/
def Obligations.TickHangsWithoutACompletion : Prop :=
  ∀ (states : Nat → State) (inputs : Nat → Option Input) (p n : Nat), IsRun states inputs → NoResetFrom inputs n →
    ((states n).seqAt p = .tAddr → (∀ m, n ≤ m → inputs m ≠ some (.turn p (some .taken))) →
      ∀ m, n ≤ m → (states m).seqAt p = .tAddr ∧ ((states n).responseAt p = none → (states m).responseAt p = none)) ∧
    ((states n).seqAt p = .tRead → (∀ m, n ≤ m → ∀ r, inputs m ≠ some (.turn p (some (.bytes r)))) →
      ∀ m, n ≤ m → (states m).seqAt p = .tRead ∧ ((states n).responseAt p = none → (states m).responseAt p = none))

/-- R192: the three assumptions can be met: from every state with a port and LOCK free there is a run without reset that
meets them. The form of the assumptions is the model's reading (log 33, DEDUCED). -/
def Obligations.LivenessAssumptionsCanBeMet : Prop :=
  ∀ s : State, 1 ≤ s.nports → s.lock = false →
    ∃ (states : Nat → State) (inputs : Nat → Option Input), states 0 = s ∧ IsRun states inputs ∧
      LivenessAssumptions states inputs ∧ NoResetFrom inputs 0
end

