-- ==== Sys2Proof/Laws/State.lean ====
section
/-! SUPPORT. One lemma per field per update of State, true by rfl, so that no proof unfolds a record update. -/

namespace Sys2Proof.Machine

variable (s : State)

@[simp] theorem State.setPort_lastTs (p : Nat) (x : Port) : (s.setPort p x).lastTs = s.lastTs := rfl
@[simp] theorem State.setPort_enabled (p : Nat) (x : Port) : (s.setPort p x).enabled = s.enabled := rfl
@[simp] theorem State.setPort_cursor (p : Nat) (x : Port) : (s.setPort p x).cursor = s.cursor := rfl
@[simp] theorem State.setPort_ring (p : Nat) (x : Port) : (s.setPort p x).ring = s.ring := rfl
@[simp] theorem State.setPort_lock (p : Nat) (x : Port) : (s.setPort p x).lock = s.lock := rfl
@[simp] theorem State.setPort_xportOwner (p : Nat) (x : Port) : (s.setPort p x).xportOwner = s.xportOwner := rfl
@[simp] theorem State.setPort_sel (p : Nat) (x : Port) : (s.setPort p x).sel = s.sel := rfl
@[simp] theorem State.setPort_ports (p : Nat) (x : Port) : (s.setPort p x).ports = s.ports.set p x := rfl
@[simp] theorem State.setPort_env (p : Nat) (x : Port) : (s.setPort p x).env = s.env := rfl

@[simp] theorem State.setHere_lastTs (x : Port) : (s.setHere x).lastTs = s.lastTs := rfl
@[simp] theorem State.setHere_enabled (x : Port) : (s.setHere x).enabled = s.enabled := rfl
@[simp] theorem State.setHere_cursor (x : Port) : (s.setHere x).cursor = s.cursor := rfl
@[simp] theorem State.setHere_ring (x : Port) : (s.setHere x).ring = s.ring := rfl
@[simp] theorem State.setHere_lock (x : Port) : (s.setHere x).lock = s.lock := rfl
@[simp] theorem State.setHere_xportOwner (x : Port) : (s.setHere x).xportOwner = s.xportOwner := rfl
@[simp] theorem State.setHere_sel (x : Port) : (s.setHere x).sel = s.sel := rfl
@[simp] theorem State.setHere_env (x : Port) : (s.setHere x).env = s.env := rfl

@[simp] theorem State.setSeq_lastTs (ph : Phase) : (s.setSeq ph).lastTs = s.lastTs := rfl
@[simp] theorem State.setSeq_enabled (ph : Phase) : (s.setSeq ph).enabled = s.enabled := rfl
@[simp] theorem State.setSeq_cursor (ph : Phase) : (s.setSeq ph).cursor = s.cursor := rfl
@[simp] theorem State.setSeq_ring (ph : Phase) : (s.setSeq ph).ring = s.ring := rfl
@[simp] theorem State.setSeq_lock (ph : Phase) : (s.setSeq ph).lock = s.lock := rfl
@[simp] theorem State.setSeq_xportOwner (ph : Phase) : (s.setSeq ph).xportOwner = s.xportOwner := rfl
@[simp] theorem State.setSeq_sel (ph : Phase) : (s.setSeq ph).sel = s.sel := rfl
@[simp] theorem State.setSeq_env (ph : Phase) : (s.setSeq ph).env = s.env := rfl

@[simp] theorem State.setTsl_lastTs (ts : Nat) : (s.setTsl ts).lastTs = s.lastTs := rfl
@[simp] theorem State.setTsl_enabled (ts : Nat) : (s.setTsl ts).enabled = s.enabled := rfl
@[simp] theorem State.setTsl_cursor (ts : Nat) : (s.setTsl ts).cursor = s.cursor := rfl
@[simp] theorem State.setTsl_ring (ts : Nat) : (s.setTsl ts).ring = s.ring := rfl
@[simp] theorem State.setTsl_lock (ts : Nat) : (s.setTsl ts).lock = s.lock := rfl
@[simp] theorem State.setTsl_xportOwner (ts : Nat) : (s.setTsl ts).xportOwner = s.xportOwner := rfl
@[simp] theorem State.setTsl_sel (ts : Nat) : (s.setTsl ts).sel = s.sel := rfl
@[simp] theorem State.setTsl_env (ts : Nat) : (s.setTsl ts).env = s.env := rfl

@[simp] theorem State.setRxb_lastTs (r : XferBytes) : (s.setRxb r).lastTs = s.lastTs := rfl
@[simp] theorem State.setRxb_enabled (r : XferBytes) : (s.setRxb r).enabled = s.enabled := rfl
@[simp] theorem State.setRxb_cursor (r : XferBytes) : (s.setRxb r).cursor = s.cursor := rfl
@[simp] theorem State.setRxb_ring (r : XferBytes) : (s.setRxb r).ring = s.ring := rfl
@[simp] theorem State.setRxb_lock (r : XferBytes) : (s.setRxb r).lock = s.lock := rfl
@[simp] theorem State.setRxb_xportOwner (r : XferBytes) : (s.setRxb r).xportOwner = s.xportOwner := rfl
@[simp] theorem State.setRxb_sel (r : XferBytes) : (s.setRxb r).sel = s.sel := rfl
@[simp] theorem State.setRxb_env (r : XferBytes) : (s.setRxb r).env = s.env := rfl

@[simp] theorem State.respond_lastTs (ill res : Bool) (d : List Byte) : (s.respond ill res d).lastTs = s.lastTs := rfl
@[simp] theorem State.respond_enabled (ill res : Bool) (d : List Byte) : (s.respond ill res d).enabled = s.enabled := rfl
@[simp] theorem State.respond_cursor (ill res : Bool) (d : List Byte) : (s.respond ill res d).cursor = s.cursor := rfl
@[simp] theorem State.respond_ring (ill res : Bool) (d : List Byte) : (s.respond ill res d).ring = s.ring := rfl
@[simp] theorem State.respond_lock (ill res : Bool) (d : List Byte) : (s.respond ill res d).lock = s.lock := rfl
@[simp] theorem State.respond_xportOwner (ill res : Bool) (d : List Byte) : (s.respond ill res d).xportOwner = s.xportOwner := rfl
@[simp] theorem State.respond_sel (ill res : Bool) (d : List Byte) : (s.respond ill res d).sel = s.sel := rfl
@[simp] theorem State.respond_env (ill res : Bool) (d : List Byte) : (s.respond ill res d).env = s.env := rfl

@[simp] theorem State.dropFrame_lastTs : (s.dropFrame).lastTs = s.lastTs := rfl
@[simp] theorem State.dropFrame_enabled : (s.dropFrame).enabled = s.enabled := rfl
@[simp] theorem State.dropFrame_cursor : (s.dropFrame).cursor = s.cursor := rfl
@[simp] theorem State.dropFrame_ring : (s.dropFrame).ring = s.ring := rfl
@[simp] theorem State.dropFrame_lock : (s.dropFrame).lock = s.lock := rfl
@[simp] theorem State.dropFrame_xportOwner : (s.dropFrame).xportOwner = s.xportOwner := rfl
@[simp] theorem State.dropFrame_sel : (s.dropFrame).sel = s.sel := rfl
@[simp] theorem State.dropFrame_env : (s.dropFrame).env = s.env := rfl

@[simp] theorem State.setLastTs_lastTs (ts : Nat) : (s.setLastTs ts).lastTs = ts := rfl
@[simp] theorem State.setLastTs_enabled (ts : Nat) : (s.setLastTs ts).enabled = s.enabled := rfl
@[simp] theorem State.setLastTs_cursor (ts : Nat) : (s.setLastTs ts).cursor = s.cursor := rfl
@[simp] theorem State.setLastTs_ring (ts : Nat) : (s.setLastTs ts).ring = s.ring := rfl
@[simp] theorem State.setLastTs_lock (ts : Nat) : (s.setLastTs ts).lock = s.lock := rfl
@[simp] theorem State.setLastTs_xportOwner (ts : Nat) : (s.setLastTs ts).xportOwner = s.xportOwner := rfl
@[simp] theorem State.setLastTs_sel (ts : Nat) : (s.setLastTs ts).sel = s.sel := rfl
@[simp] theorem State.setLastTs_ports (ts : Nat) : (s.setLastTs ts).ports = s.ports := rfl
@[simp] theorem State.setLastTs_env (ts : Nat) : (s.setLastTs ts).env = s.env := rfl

@[simp] theorem State.setCursor_lastTs (c : Fin 3) : (s.setCursor c).lastTs = s.lastTs := rfl
@[simp] theorem State.setCursor_enabled (c : Fin 3) : (s.setCursor c).enabled = s.enabled := rfl
@[simp] theorem State.setCursor_cursor (c : Fin 3) : (s.setCursor c).cursor = c := rfl
@[simp] theorem State.setCursor_ring (c : Fin 3) : (s.setCursor c).ring = s.ring := rfl
@[simp] theorem State.setCursor_lock (c : Fin 3) : (s.setCursor c).lock = s.lock := rfl
@[simp] theorem State.setCursor_xportOwner (c : Fin 3) : (s.setCursor c).xportOwner = s.xportOwner := rfl
@[simp] theorem State.setCursor_sel (c : Fin 3) : (s.setCursor c).sel = s.sel := rfl
@[simp] theorem State.setCursor_ports (c : Fin 3) : (s.setCursor c).ports = s.ports := rfl
@[simp] theorem State.setCursor_env (c : Fin 3) : (s.setCursor c).env = s.env := rfl

@[simp] theorem State.setLock_lastTs (b : Bool) : (s.setLock b).lastTs = s.lastTs := rfl
@[simp] theorem State.setLock_enabled (b : Bool) : (s.setLock b).enabled = s.enabled := rfl
@[simp] theorem State.setLock_cursor (b : Bool) : (s.setLock b).cursor = s.cursor := rfl
@[simp] theorem State.setLock_ring (b : Bool) : (s.setLock b).ring = s.ring := rfl
@[simp] theorem State.setLock_lock (b : Bool) : (s.setLock b).lock = b := rfl
@[simp] theorem State.setLock_xportOwner (b : Bool) : (s.setLock b).xportOwner = s.xportOwner := rfl
@[simp] theorem State.setLock_sel (b : Bool) : (s.setLock b).sel = s.sel := rfl
@[simp] theorem State.setLock_ports (b : Bool) : (s.setLock b).ports = s.ports := rfl
@[simp] theorem State.setLock_env (b : Bool) : (s.setLock b).env = s.env := rfl

@[simp] theorem State.takeTransport_lastTs (p : Nat) : (s.takeTransport p).lastTs = s.lastTs := rfl
@[simp] theorem State.takeTransport_enabled (p : Nat) : (s.takeTransport p).enabled = s.enabled := rfl
@[simp] theorem State.takeTransport_cursor (p : Nat) : (s.takeTransport p).cursor = s.cursor := rfl
@[simp] theorem State.takeTransport_ring (p : Nat) : (s.takeTransport p).ring = s.ring := rfl
@[simp] theorem State.takeTransport_lock (p : Nat) : (s.takeTransport p).lock = s.lock := rfl
@[simp] theorem State.takeTransport_xportOwner (p : Nat) : (s.takeTransport p).xportOwner = some p := rfl
@[simp] theorem State.takeTransport_sel (p : Nat) : (s.takeTransport p).sel = true := rfl
@[simp] theorem State.takeTransport_ports (p : Nat) : (s.takeTransport p).ports = s.ports := rfl
@[simp] theorem State.takeTransport_env (p : Nat) : (s.takeTransport p).env = s.env := rfl

@[simp] theorem State.releaseTransport_lastTs : (s.releaseTransport).lastTs = s.lastTs := rfl
@[simp] theorem State.releaseTransport_enabled : (s.releaseTransport).enabled = s.enabled := rfl
@[simp] theorem State.releaseTransport_cursor : (s.releaseTransport).cursor = s.cursor := rfl
@[simp] theorem State.releaseTransport_ring : (s.releaseTransport).ring = s.ring := rfl
@[simp] theorem State.releaseTransport_lock : (s.releaseTransport).lock = s.lock := rfl
@[simp] theorem State.releaseTransport_xportOwner : (s.releaseTransport).xportOwner = none := rfl
@[simp] theorem State.releaseTransport_sel : (s.releaseTransport).sel = false := rfl
@[simp] theorem State.releaseTransport_ports : (s.releaseTransport).ports = s.ports := rfl
@[simp] theorem State.releaseTransport_env : (s.releaseTransport).env = s.env := rfl

@[simp] theorem State.setEnabled_lastTs (e : Bool) : (s.setEnabled e).lastTs = s.lastTs := rfl
@[simp] theorem State.setEnabled_enabled (e : Bool) : (s.setEnabled e).enabled = e := rfl
@[simp] theorem State.setEnabled_cursor (e : Bool) : (s.setEnabled e).cursor = s.cursor := rfl
@[simp] theorem State.setEnabled_ring (e : Bool) : (s.setEnabled e).ring = s.ring := rfl
@[simp] theorem State.setEnabled_lock (e : Bool) : (s.setEnabled e).lock = s.lock := rfl
@[simp] theorem State.setEnabled_xportOwner (e : Bool) : (s.setEnabled e).xportOwner = s.xportOwner := rfl
@[simp] theorem State.setEnabled_sel (e : Bool) : (s.setEnabled e).sel = s.sel := rfl
@[simp] theorem State.setEnabled_ports (e : Bool) : (s.setEnabled e).ports = s.ports := rfl
@[simp] theorem State.setEnabled_env (e : Bool) : (s.setEnabled e).env = s.env := rfl

@[simp] theorem State.ringWrite_lastTs (v : AxisValues) : (s.ringWrite v).lastTs = s.lastTs := rfl
@[simp] theorem State.ringWrite_enabled (v : AxisValues) : (s.ringWrite v).enabled = s.enabled := rfl
@[simp] theorem State.ringWrite_cursor (v : AxisValues) : (s.ringWrite v).cursor = satInc s.cursor := rfl
@[simp] theorem State.ringWrite_ring (v : AxisValues) : (s.ringWrite v).ring = s.ring.write s.cursor v := rfl
@[simp] theorem State.ringWrite_lock (v : AxisValues) : (s.ringWrite v).lock = s.lock := rfl
@[simp] theorem State.ringWrite_xportOwner (v : AxisValues) : (s.ringWrite v).xportOwner = s.xportOwner := rfl
@[simp] theorem State.ringWrite_sel (v : AxisValues) : (s.ringWrite v).sel = s.sel := rfl
@[simp] theorem State.ringWrite_ports (v : AxisValues) : (s.ringWrite v).ports = s.ports := rfl
@[simp] theorem State.ringWrite_env (v : AxisValues) : (s.ringWrite v).env = s.env := rfl

@[simp] theorem State.logTx_lastTs (op : TxOp) : (s.logTx op).lastTs = s.lastTs := rfl
@[simp] theorem State.logTx_enabled (op : TxOp) : (s.logTx op).enabled = s.enabled := rfl
@[simp] theorem State.logTx_cursor (op : TxOp) : (s.logTx op).cursor = s.cursor := rfl
@[simp] theorem State.logTx_ring (op : TxOp) : (s.logTx op).ring = s.ring := rfl
@[simp] theorem State.logTx_lock (op : TxOp) : (s.logTx op).lock = s.lock := rfl
@[simp] theorem State.logTx_xportOwner (op : TxOp) : (s.logTx op).xportOwner = s.xportOwner := rfl
@[simp] theorem State.logTx_sel (op : TxOp) : (s.logTx op).sel = s.sel := rfl
@[simp] theorem State.logTx_ports (op : TxOp) : (s.logTx op).ports = s.ports := rfl

@[simp] theorem State.turn_lastTs (p : Nat) (a : Option TxAnswer) : (s.turn p a).lastTs = s.lastTs := rfl
@[simp] theorem State.turn_enabled (p : Nat) (a : Option TxAnswer) : (s.turn p a).enabled = s.enabled := rfl
@[simp] theorem State.turn_cursor (p : Nat) (a : Option TxAnswer) : (s.turn p a).cursor = s.cursor := rfl
@[simp] theorem State.turn_ring (p : Nat) (a : Option TxAnswer) : (s.turn p a).ring = s.ring := rfl
@[simp] theorem State.turn_lock (p : Nat) (a : Option TxAnswer) : (s.turn p a).lock = s.lock := rfl
@[simp] theorem State.turn_xportOwner (p : Nat) (a : Option TxAnswer) : (s.turn p a).xportOwner = s.xportOwner := rfl
@[simp] theorem State.turn_sel (p : Nat) (a : Option TxAnswer) : (s.turn p a).sel = s.sel := rfl
@[simp] theorem State.turn_ports (p : Nat) (a : Option TxAnswer) : (s.turn p a).ports = s.ports := rfl

@[simp] theorem State.withInputs_lastTs (l : List Input) : (s.withInputs l).lastTs = s.lastTs := rfl
@[simp] theorem State.withInputs_enabled (l : List Input) : (s.withInputs l).enabled = s.enabled := rfl
@[simp] theorem State.withInputs_cursor (l : List Input) : (s.withInputs l).cursor = s.cursor := rfl
@[simp] theorem State.withInputs_ring (l : List Input) : (s.withInputs l).ring = s.ring := rfl
@[simp] theorem State.withInputs_lock (l : List Input) : (s.withInputs l).lock = s.lock := rfl
@[simp] theorem State.withInputs_xportOwner (l : List Input) : (s.withInputs l).xportOwner = s.xportOwner := rfl
@[simp] theorem State.withInputs_sel (l : List Input) : (s.withInputs l).sel = s.sel := rfl
@[simp] theorem State.withInputs_ports (l : List Input) : (s.withInputs l).ports = s.ports := rfl

@[simp] theorem State.setChan_lastTs (p : Nat) (c : Channel) : (s.setChan p c).lastTs = s.lastTs := rfl
@[simp] theorem State.setChan_enabled (p : Nat) (c : Channel) : (s.setChan p c).enabled = s.enabled := rfl
@[simp] theorem State.setChan_cursor (p : Nat) (c : Channel) : (s.setChan p c).cursor = s.cursor := rfl
@[simp] theorem State.setChan_ring (p : Nat) (c : Channel) : (s.setChan p c).ring = s.ring := rfl
@[simp] theorem State.setChan_lock (p : Nat) (c : Channel) : (s.setChan p c).lock = s.lock := rfl
@[simp] theorem State.setChan_xportOwner (p : Nat) (c : Channel) : (s.setChan p c).xportOwner = s.xportOwner := rfl
@[simp] theorem State.setChan_sel (p : Nat) (c : Channel) : (s.setChan p c).sel = s.sel := rfl
@[simp] theorem State.setChan_env (p : Nat) (c : Channel) : (s.setChan p c).env = s.env := rfl

@[simp] theorem State.logTx_env_params (op : TxOp) : (s.logTx op).env.params = s.env.params := rfl
@[simp] theorem State.logTx_env_inputs (op : TxOp) : (s.logTx op).env.inputs = s.env.inputs := rfl
@[simp] theorem State.logTx_env_port (op : TxOp) : (s.logTx op).env.port = s.env.port := rfl
@[simp] theorem State.logTx_env_answer (op : TxOp) : (s.logTx op).env.answer = s.env.answer := rfl
@[simp] theorem State.logTx_env_stream (op : TxOp) : (s.logTx op).env.stream = s.env.stream ++ [op] := rfl

@[simp] theorem State.turn_env_params (p : Nat) (a : Option TxAnswer) : (s.turn p a).env.params = s.env.params := rfl
@[simp] theorem State.turn_env_inputs (p : Nat) (a : Option TxAnswer) : (s.turn p a).env.inputs = s.env.inputs := rfl
@[simp] theorem State.turn_env_port (p : Nat) (a : Option TxAnswer) : (s.turn p a).env.port = p := rfl
@[simp] theorem State.turn_env_answer (p : Nat) (a : Option TxAnswer) : (s.turn p a).env.answer = a := rfl
@[simp] theorem State.turn_env_stream (p : Nat) (a : Option TxAnswer) : (s.turn p a).env.stream = s.env.stream := rfl

@[simp] theorem State.withInputs_env_params (l : List Input) : (s.withInputs l).env.params = s.env.params := rfl
@[simp] theorem State.withInputs_env_inputs (l : List Input) : (s.withInputs l).env.inputs = l := rfl
@[simp] theorem State.withInputs_env_port (l : List Input) : (s.withInputs l).env.port = s.env.port := rfl
@[simp] theorem State.withInputs_env_answer (l : List Input) : (s.withInputs l).env.answer = s.env.answer := rfl
@[simp] theorem State.withInputs_env_stream (l : List Input) : (s.withInputs l).env.stream = s.env.stream := rfl

end Sys2Proof.Machine
end

