-- ==== Sys2Proof/Laws/Ports.lean ====
section
/-! SUPPORT. What reading a port gives after each update of a port: the lemmas cited instead of unfolding `setPort`. -/

namespace Sys2Proof.Machine

variable (s : State)

@[simp] theorem State.setPort_nports (p : Nat) (x : Port) : (s.setPort p x).nports = s.nports := by
  simp [State.nports]

@[simp] theorem State.setHere_nports (x : Port) : (s.setHere x).nports = s.nports := s.setPort_nports _ x

@[simp] theorem State.setSeq_nports (ph : Phase) : (s.setSeq ph).nports = s.nports := s.setHere_nports _

@[simp] theorem State.setTsl_nports (ts : Nat) : (s.setTsl ts).nports = s.nports := s.setHere_nports _

@[simp] theorem State.setRxb_nports (r : XferBytes) : (s.setRxb r).nports = s.nports := s.setHere_nports _

@[simp] theorem State.respond_nports (ill res : Bool) (d : List Byte) : (s.respond ill res d).nports = s.nports :=
  s.setHere_nports _

@[simp] theorem State.dropFrame_nports : s.dropFrame.nports = s.nports := s.setHere_nports _

@[simp] theorem State.setChan_nports (p : Nat) (c : Channel) : (s.setChan p c).nports = s.nports := s.setPort_nports p _

/-- The port written reads as it was written, if it exists. -/
theorem State.portAt_setPort_self {p : Nat} (x : Port) (h : p < s.nports) : (s.setPort p x).portAt p = x := by
  simp only [State.nports] at h
  simp [State.portAt, State.setPort, h]

/-- Every other port reads as before. -/
theorem State.portAt_setPort_ne {p q : Nat} (x : Port) (h : q ≠ p) : (s.setPort p x).portAt q = s.portAt q := by
  simp [State.portAt, State.setPort, Ne.symm h]

/-- Reading a port after writing one. -/
theorem State.portAt_setPort (p q : Nat) (x : Port) :
    (s.setPort p x).portAt q = if q = p ∧ p < s.nports then x else s.portAt q := by
  by_cases hq : q = p
  · subst hq
    by_cases hp : q < s.nports
    · simp [hp, State.portAt_setPort_self]
    · have hlen : s.ports.length ≤ q := by simpa [State.nports] using hp
      simp [hp, State.portAt, State.setPort, List.set_eq_of_length_le hlen]
  · simp [hq, State.portAt_setPort_ne]

/-- Writing back what a port holds changes nothing. -/
theorem State.setPort_portAt (p : Nat) : s.setPort p (s.portAt p) = s := by
  by_cases hp : p < s.ports.length
  · simp [State.setPort, State.portAt, hp]
  · have hlen : s.ports.length ≤ p := by omega
    simp [State.setPort, List.set_eq_of_length_le hlen]

/-- Of two writes to one port the second stands. -/
theorem State.setPort_setPort (p : Nat) (x y : Port) : (s.setPort p x).setPort p y = s.setPort p y := by
  simp [State.setPort]

/-- Writing the port of this step does not change which port that is. -/
@[simp] theorem State.setHere_env_port (x : Port) : (s.setHere x).env.port = s.env.port := rfl

/-- Reading the port of this step after writing it. -/
theorem State.here_setHere (x : Port) (h : s.env.port < s.nports) : (s.setHere x).here = x :=
  s.portAt_setPort_self x h

/-- A field update of State that leaves the ports alone leaves every port's reading alone. -/
theorem State.portAt_congr {s t : State} (h : t.ports = s.ports) (p : Nat) : t.portAt p = s.portAt p := by
  simp [State.portAt, h]

/-! Updates that leave the ports alone. -/

@[simp] theorem State.setLastTs_nports (ts : Nat) : (s.setLastTs ts).nports = s.nports := rfl
@[simp] theorem State.setLastTs_portAt (ts : Nat) (p : Nat) : (s.setLastTs ts).portAt p = s.portAt p := rfl
@[simp] theorem State.setLastTs_here (ts : Nat) : (s.setLastTs ts).here = s.here := rfl
@[simp] theorem State.setCursor_nports (c : Fin 3) : (s.setCursor c).nports = s.nports := rfl
@[simp] theorem State.setCursor_portAt (c : Fin 3) (p : Nat) : (s.setCursor c).portAt p = s.portAt p := rfl
@[simp] theorem State.setCursor_here (c : Fin 3) : (s.setCursor c).here = s.here := rfl
@[simp] theorem State.setLock_nports (b : Bool) : (s.setLock b).nports = s.nports := rfl
@[simp] theorem State.setLock_portAt (b : Bool) (p : Nat) : (s.setLock b).portAt p = s.portAt p := rfl
@[simp] theorem State.setLock_here (b : Bool) : (s.setLock b).here = s.here := rfl
@[simp] theorem State.takeTransport_nports (q : Nat) : (s.takeTransport q).nports = s.nports := rfl
@[simp] theorem State.takeTransport_portAt (q : Nat) (p : Nat) : (s.takeTransport q).portAt p = s.portAt p := rfl
@[simp] theorem State.takeTransport_here (q : Nat) : (s.takeTransport q).here = s.here := rfl
@[simp] theorem State.releaseTransport_nports : (s.releaseTransport).nports = s.nports := rfl
@[simp] theorem State.releaseTransport_portAt (p : Nat) : (s.releaseTransport).portAt p = s.portAt p := rfl
@[simp] theorem State.releaseTransport_here : (s.releaseTransport).here = s.here := rfl
@[simp] theorem State.setEnabled_nports (e : Bool) : (s.setEnabled e).nports = s.nports := rfl
@[simp] theorem State.setEnabled_portAt (e : Bool) (p : Nat) : (s.setEnabled e).portAt p = s.portAt p := rfl
@[simp] theorem State.setEnabled_here (e : Bool) : (s.setEnabled e).here = s.here := rfl
@[simp] theorem State.ringWrite_nports (v : AxisValues) : (s.ringWrite v).nports = s.nports := rfl
@[simp] theorem State.ringWrite_portAt (v : AxisValues) (p : Nat) : (s.ringWrite v).portAt p = s.portAt p := rfl
@[simp] theorem State.ringWrite_here (v : AxisValues) : (s.ringWrite v).here = s.here := rfl
@[simp] theorem State.logTx_nports (op : TxOp) : (s.logTx op).nports = s.nports := rfl
@[simp] theorem State.logTx_portAt (op : TxOp) (p : Nat) : (s.logTx op).portAt p = s.portAt p := rfl
@[simp] theorem State.logTx_here (op : TxOp) : (s.logTx op).here = s.here := rfl
@[simp] theorem State.turn_nports (q : Nat) (a : Option TxAnswer) : (s.turn q a).nports = s.nports := rfl
@[simp] theorem State.turn_portAt (q : Nat) (a : Option TxAnswer) (p : Nat) : (s.turn q a).portAt p = s.portAt p := rfl
@[simp] theorem State.withInputs_nports (l : List Input) : (s.withInputs l).nports = s.nports := rfl
@[simp] theorem State.withInputs_portAt (l : List Input) (p : Nat) : (s.withInputs l).portAt p = s.portAt p := rfl
@[simp] theorem State.withInputs_here (l : List Input) : (s.withInputs l).here = s.here := rfl

/-- The reading of each port's parts, folded back to the statements' names. -/
theorem State.portAt_parts (p : Nat) :
    (s.portAt p).seq = s.seqAt p ∧ (s.portAt p).tsl = s.tslAt p ∧ (s.portAt p).rxb = s.rxbAt p ∧
      (s.portAt p).chan.frame = s.frameAt p ∧ (s.portAt p).chan.response = s.responseAt p :=
  ⟨rfl, rfl, rfl, rfl, rfl⟩

/-- What an answer changes: the response of the port of this step, and nothing else of any port. -/
theorem State.respond_answers (ill res : Bool) (d : List Byte) (h : s.env.port < s.nports) :
    AnsweredHere (responseFrame ill res d) s (s.respond ill res d) := by
  have hp : (s.respond ill res d).portAt s.env.port =
      { s.here with chan := { s.here.chan with response := some (responseFrame ill res d) } } :=
    s.portAt_setPort_self _ h
  refine ⟨⟨by simp, fun q hq => s.portAt_setPort_ne _ hq⟩, ?_, ?_, ?_, ?_, ?_⟩ <;>
    simp [State.responseAt, State.frameAt, State.seqAt, State.tslAt, State.rxbAt, hp, State.here]

end Sys2Proof.Machine
end

