-- ==== Sys2Proof/Laws/Ops.lean ====
section
/-! SUPPORT. For each shared operation, what it can do: the lemmas cited instead of unfolding it. -/

namespace Sys2Proof.Machine

/-- A ring unit that answers t either held at LOCK = 1, or ran its body between taking and releasing LOCK (R60). -/
theorem ringUnit_next {body : State → State} {s t : State} (h : ringUnit body s = .next t) :
    (s.lock = true ∧ t = s) ∨ (s.lock = false ∧ t = (body (s.setLock true)).setLock false) := by
  unfold ringUnit at h
  split at h <;> simp_all [hold]

/-- A ring unit always answers a next state. -/
theorem ringUnit_completes (body : State → State) (s : State) : Completes (ringUnit body s) := by
  unfold ringUnit Completes
  split <;> exact ⟨_, rfl⟩

/-- A ring unit at LOCK = 0 runs. -/
theorem ringUnit_free {s : State} (body : State → State) (h : s.lock = false) :
    ringUnit body s = .next ((body (s.setLock true)).setLock false) := by
  simp [ringUnit, h]

/-- A ring unit at LOCK = 1 holds. -/
theorem ringUnit_held {s : State} (body : State → State) (h : s.lock = true) : ringUnit body s = .next s := by
  simp [ringUnit, h, hold]

/-- The gate passes exactly when the timestamp is new and the difference exceeds the threshold (R102). -/
theorem gateEval_fst (w thr last ts : Nat) :
    (gateEval w thr last ts).1 = true ↔ ts ≠ last ∧ thr < diff w last ts := by
  unfold gateEval
  split <;> [simp_all; (split <;> simp_all)]

/-- The stored timestamp after a gate evaluation: the new one on a pass, the old one otherwise (R102). -/
theorem gateEval_snd (w thr last ts : Nat) :
    (gateEval w thr last ts).2 = if (gateEval w thr last ts).1 then ts else last := by
  unfold gateEval
  split <;> [simp_all; (split <;> simp_all)]

/-- SatInc as a number (R120). -/
theorem satInc_val (c : Fin 3) : (satInc c).val = if c.val < 2 then c.val + 1 else 2 := by
  revert c; decide

/-- An entry reads as it was written. -/
theorem AxisBuffer.get_set_self (b : AxisBuffer) (g : Fin 3) (w : Word) : (b.set g w).get g = w := by
  fin_cases g <;> rfl

/-- The other generations read as before. -/
theorem AxisBuffer.get_set_ne (b : AxisBuffer) {g g' : Fin 3} (w : Word) (h : g' ≠ g) :
    (b.set g w).get g' = b.get g' := by
  fin_cases g <;> fin_cases g' <;> first | rfl | exact absurd rfl h

/-- After a ring write every axis holds its value at the written generation (R121). -/
theorem Ring.entry_write_self (r : Ring) (g : Fin 3) (v : AxisValues) (a : Axis) :
    (r.write g v).entry a g = v.get a := by
  cases a <;> exact AxisBuffer.get_set_self _ g _

/-- "The other two generations are not touched" (R121). -/
theorem Ring.entry_write_ne (r : Ring) {g g' : Fin 3} (v : AxisValues) (a : Axis) (h : g' ≠ g) :
    (r.write g v).entry a g' = r.entry a g' := by
  cases a <;> exact AxisBuffer.get_set_ne _ _ h

/-- Two buffers with the same three generations are the same. -/
theorem AxisBuffer.ext_get {b c : AxisBuffer} (h : ∀ g, b.get g = c.get g) : b = c := by
  have h0 := h 0
  have h1 := h 1
  have h2 := h 2
  cases b; cases c
  simp_all [AxisBuffer.get]

/-- Two rings with the same eighteen entries are the same. -/
theorem Ring.ext_entry {r q : Ring} (h : ∀ a g, r.entry a g = q.entry a g) : r = q := by
  cases r; cases q
  simp only [Ring.mk.injEq]
  exact ⟨AxisBuffer.ext_get (h .gx), AxisBuffer.ext_get (h .gy), AxisBuffer.ext_get (h .gz),
    AxisBuffer.ext_get (h .ax), AxisBuffer.ext_get (h .ay), AxisBuffer.ext_get (h .az)⟩

/-- The two bytes of a value give the value back (R51). -/
theorem le16_lo_hi (v : Word) : le16 (lo v) (hi v) = v := by
  apply BitVec.eq_of_getLsbD_eq
  intro i hi'
  simp only [le16, lo, hi, BitVec.getLsbD_append, BitVec.getLsbD_extractLsb']
  split
  · simp [*]
  · have h8 : i - 8 < 8 := by omega
    have h8' : 8 + (i - 8) = i := by omega
    simp [h8, h8']

/-- The low byte of `le16` is its first byte. -/
theorem lo_le16 (b0 b1 : Byte) : lo (le16 b0 b1) = b0 := by
  apply BitVec.eq_of_getLsbD_eq
  intro i hi'
  simp only [le16, lo, BitVec.getLsbD_append, BitVec.getLsbD_extractLsb']
  simp [hi']

/-- The high byte of `le16` is its second byte. -/
theorem hi_le16 (b0 b1 : Byte) : hi (le16 b0 b1) = b1 := by
  apply BitVec.eq_of_getLsbD_eq
  intro i hi'
  simp only [le16, hi, BitVec.getLsbD_append, BitVec.getLsbD_extractLsb']
  simp [hi']

/-- An FW payload gives back its axis values (R75). -/
theorem axisOperand_axisPayload (v : AxisValues) : axisOperand (axisPayload v) = some v := by
  simp [axisOperand, axisPayload, le16_lo_hi]

/-- The number of bytes of `leBytes`. -/
@[simp] theorem leBytes_length (n v : Nat) : (leBytes n v).length = n := by
  induction n generalizing v with
  | zero => rfl
  | succ n ih => simp [leBytes, ih]

/-- The little-endian bytes of a number that fits in them stand for it (R53). -/
theorem leNat_leBytes (n v : Nat) (h : v < 2 ^ (8 * n)) : leNat (leBytes n v) = v := by
  induction n generalizing v with
  | zero => simp_all [leNat, leBytes]
  | succ n ih =>
    have hdiv : v / 256 < 2 ^ (8 * n) := by
      rw [Nat.div_lt_iff_lt_mul (by norm_num)]
      calc v < 2 ^ (8 * (n + 1)) := h
        _ = 2 ^ (8 * n) * 256 := by rw [Nat.mul_add, Nat.pow_add]
    simp only [leBytes, leNat, ih _ hdiv, BitVec.toNat_ofNat]
    omega

/-- A timestamp of TS_W bits fits TSB bytes (R6). -/
theorem tsb_covers (w : Nat) : w ≤ 8 * tsb w := by
  unfold tsb
  omega

/-- The status bytes: 0x00, 0x02 and 0x01 for the ILLEGAL answer (R79). -/
theorem statusByte_values :
    statusByte false false = 0x00 ∧ statusByte false true = 0x02 ∧ statusByte true false = 0x01 := by decide

/-- An accepted frame is dropped; a held one stays. -/
theorem acceptAfter_next {o : Result} {t : State} (h : acceptAfter o = .next t) :
    ∃ u, o = .next u ∧ ((u.accepted = true ∧ t = u.dropFrame) ∨ (u.accepted = false ∧ t = u)) := by
  cases o with
  | next u =>
    refine ⟨u, rfl, ?_⟩
    simp only [acceptAfter, Host.Outcome.next.injEq] at h
    by_cases hu : u.accepted = true <;> simp_all
  | fault r => cases h
  | refused r => cases h

/-- Every way an input can lead to a next state: the reset input, or a move at a port that exists. -/
theorem applyInput_next {i : Input} {s t : State} (h : applyInput i s = .next t) :
    (i.reset = true ∧ t = s.applyReset) ∨
      (i.reset = false ∧ i.move.port < s.nports ∧ applyMove i.move s = .next t) := by
  unfold applyInput at h
  split at h
  · simp_all
  · split at h <;> simp_all

end Sys2Proof.Machine
end

