-- ==== Sys2Proof/Laws/Encoding.lean ====
section
/-! SUPPORT. The header byte and its fields (30_encoding.md R71, R72). -/

namespace Sys2Proof

/-- The opcode field of a header reads back as the opcode (R71, R72). -/
@[simp] theorem opcodeOf_header (op : Opcode) (e : Bool) : opcodeOf (headerOp (header op e)) = some op := by
  cases op <;> cases e <;> decide

/-- The E field of a header reads back (R71). -/
@[simp] theorem headerE_header (op : Opcode) (e : Bool) : headerE (header op e) = e := by
  cases op <;> cases e <;> decide

/-- The RSV field of a header is zero (R71). -/
@[simp] theorem headerRsv_header (op : Opcode) (e : Bool) : headerRsv (header op e) = 0 := by
  cases op <;> cases e <;> decide

/-- An opcode's bits are the field it was read from (R72). -/
theorem opcodeBits_of_opcodeOf {b : BitVec 4} {op : Opcode} (h : opcodeOf b = some op) : opcodeBits op = b := by
  revert h
  obtain ⟨n⟩ := b
  revert n
  cases op <;> decide

/-- A header byte is its three fields, RSV, E and OP (R71). -/
theorem header_fields (h : Byte) :
    (headerRsv h ++ BitVec.ofBool (headerE h) ++ headerOp h : BitVec (3 + 1 + 4)) = h := by
  apply BitVec.eq_of_getLsbD_eq
  intro i hi
  simp only [headerRsv, headerE, headerOp, BitVec.getLsbD_append, BitVec.getLsbD_extractLsb', BitVec.getLsbD_ofBool]
  have : i = 0 ∨ i = 1 ∨ i = 2 ∨ i = 3 ∨ i = 4 ∨ i = 5 ∨ i = 6 ∨ i = 7 := by omega
  rcases this with rfl | rfl | rfl | rfl | rfl | rfl | rfl | rfl <;> simp

/-- A header byte with RSV = 0 and a legal opcode is the header of its own fields (R71). -/
theorem header_of_fields (h : Byte) (op : Opcode) (hr : headerRsv h = 0) (ho : opcodeOf (headerOp h) = some op) :
    header op (headerE h) = h := by
  have hf := header_fields h
  rw [hr, ← opcodeBits_of_opcodeOf ho] at hf
  exact hf

end Sys2Proof
end

