-- ==== Sys2Proof/Laws/Step.lean ====
section
/-! SUPPORT. What one step can do, and what each command can do: one inversion lemma for each, cited instead of unfolding
the step, the sequencer or a meaning. -/

namespace Sys2Proof.Machine

/-! ### The commands -/

/-- What GATE answers (R100). -/
theorem execGate_next {ts : Nat} {s t : State} (h : exec (.gate ts) s = .next t) :
    t = (s.setLastTs (s.gate ts).2).respond false (s.gate ts).1 [] := by
  cases h; rfl

/-- RWRITE holds at LOCK = 1, or writes the ring, answers, and leaves LOCK free (R121). -/
theorem execRwrite_next {v : AxisValues} {s t : State} (h : exec (.rwrite v) s = .next t) :
    (s.lock = true ∧ t = s) ∨ (s.lock = false ∧ t = ((s.ringWrite v).respond false false []).setLock false) :=
  ringUnit_next (body := fun s => (s.ringWrite v).respond false false []) h

/-- RDPKT holds at LOCK = 1, or answers the packet (R123). -/
theorem execRdpkt_next {s t : State} (h : exec .rdpkt s = .next t) :
    (s.lock = true ∧ t = s) ∨ (s.lock = false ∧ t = (s.respond false false s.ring.ser).setLock false) :=
  ringUnit_next (body := fun s => s.respond false false s.ring.ser) h

/-- RSTCUR holds at LOCK = 1, or clears CURSOR and answers (R124). -/
theorem execRstcur_next {s t : State} (h : exec .rstcur s = .next t) :
    (s.lock = true ∧ t = s) ∨
      (s.lock = false ∧ t = ((s.setCursor 0).respond false false []).setLock false) :=
  ringUnit_next (body := fun s => (s.setCursor 0).respond false false []) h

/-- RWRITE at LOCK = 0 (R121). -/
theorem execRwrite_free {s : State} (v : AxisValues) (h : s.lock = false) :
    exec (.rwrite v) s = .next (((s.ringWrite v).respond false false []).setLock false) :=
  ringUnit_free (fun s => (s.ringWrite v).respond false false []) h

/-- RDPKT at LOCK = 0 (R123). -/
theorem execRdpkt_free {s : State} (h : s.lock = false) :
    exec .rdpkt s = .next ((s.respond false false s.ring.ser).setLock false) :=
  ringUnit_free (fun s => s.respond false false s.ring.ser) h

/-- RSTCUR at LOCK = 0 (R124). -/
theorem execRstcur_free {s : State} (h : s.lock = false) :
    exec .rstcur s = .next (((s.setCursor 0).respond false false []).setLock false) :=
  ringUnit_free (fun s => (s.setCursor 0).respond false false []) h

/-- U_T5 at LOCK = 0 (R156). -/
theorem unitT5_free {s : State} (h : s.lock = false) :
    unitT5 s = .next ((((s.ringWrite (tickValues s.here.rxb)).respond false true []).setSeq .idle).setLock false) :=
  ringUnit_free (fun s => ((s.ringWrite (tickValues s.here.rxb)).respond false true []).setSeq .idle) h

/-- What SETEN answers (R157). -/
theorem execSeten_next {e : Bool} {s t : State} (h : exec (.seten e) s = .next t) :
    t = (s.setEnabled e).respond false false [] := by
  cases h; rfl

/-- The unit a TICK runs is the one its sequencer stands at (R151). -/
theorem execTick_idle {s : State} (ts : Nat) (h : s.here.seq = .idle) : exec (.tick ts) s = unitT0 ts s := by
  simp [exec, execTick, h]

/-- Past U_T0 the timestamp operand is not read again (R152 to R156). -/
theorem execTick_operand {s : State} (ts ts' : Nat) (h : s.here.seq ≠ .idle) :
    exec (.tick ts) s = exec (.tick ts') s := by
  simp only [exec, execTick]
  split <;> simp_all

/-- U_T0 ends disabled, ends with no gate-pass, or starts the acquisition (R152). -/
theorem unitT0_next {ts : Nat} {s t : State} (h : unitT0 ts s = .next t) :
    (s.enabled = false ∧ t = s.respond false false []) ∨
      (s.enabled = true ∧ (s.gate ts).1 = false ∧ t = s.respond false false []) ∨
      (s.enabled = true ∧ (s.gate ts).1 = true ∧ t = ((s.setLastTs ts).setTsl ts).setSeq .tXport) := by
  have hs : (s.gate ts).2 = if (s.gate ts).1 then ts else s.lastTs := gateEval_snd _ _ _ _
  unfold unitT0 at h
  split at h
  · next he => cases h; exact Or.inl ⟨he, rfl⟩
  · next he =>
    split at h
    · next hg => cases h; refine Or.inr (Or.inl ⟨he, hg, ?_⟩); simp [hs, hg, State.setLastTs]
    · next hg => cases h; refine Or.inr (Or.inr ⟨he, hg, ?_⟩); simp [hs, hg]

/-- U_T1 holds while the transport has an owner, or takes it (R153). -/
theorem unitT1_next {s t : State} (h : unitT1 s = .next t) :
    (s.xportOwner ≠ none ∧ t = s) ∨
      (s.xportOwner = none ∧
        t = ((s.takeTransport s.env.port).logTx .selAssert).setSeq .tAddr) := by
  unfold unitT1 at h
  split at h <;> cases h <;> simp_all

/-- U_T2 holds, or the transport has taken the address byte (R154). -/
theorem unitT2_next {s t : State} (h : unitT2 s = .next t) :
    (s.env.answer ≠ some .taken ∧ t = s) ∨
      (s.env.answer = some .taken ∧ t = (s.logTx (.write [s.env.params.gyroAddrByte])).setSeq .tRead) := by
  unfold unitT2 at h
  split at h <;> cases h <;> simp_all

/-- U_T3 holds, or the transport has answered twelve bytes (R154). -/
theorem unitT3_next {s t : State} (h : unitT3 s = .next t) :
    ((∀ r, s.env.answer ≠ some (.bytes r)) ∧ t = s) ∨
      ∃ r, s.env.answer = some (.bytes r) ∧ t = ((s.logTx (.read Config.xferLen r)).setRxb r).setSeq .tDesel := by
  unfold unitT3 at h
  split at h <;> cases h <;> simp_all

/-- What U_T4 answers (R155). -/
theorem unitT4_next {s t : State} (h : unitT4 s = .next t) :
    t = (s.releaseTransport.logTx .selDeassert).setSeq .tWrite := by
  cases h; rfl

/-- U_T5 holds at LOCK = 1, or writes the sample, answers 0x02 and ends the TICK (R156). -/
theorem unitT5_next {s t : State} (h : unitT5 s = .next t) :
    (s.lock = true ∧ t = s) ∨
      (s.lock = false ∧
        t = (((s.ringWrite (tickValues s.here.rxb)).respond false true []).setSeq .idle).setLock false) :=
  ringUnit_next (body := fun s => ((s.ringWrite (tickValues s.here.rxb)).respond false true []).setSeq .idle) h

/-- A TICK's step is the unit of the phase it stands at (R151). -/
theorem execTick_next {ts : Nat} {s t : State} (h : exec (.tick ts) s = .next t) :
    (s.here.seq = .idle ∧ unitT0 ts s = .next t) ∨ (s.here.seq = .tXport ∧ unitT1 s = .next t) ∨
      (s.here.seq = .tAddr ∧ unitT2 s = .next t) ∨ (s.here.seq = .tRead ∧ unitT3 s = .next t) ∨
      (s.here.seq = .tDesel ∧ unitT4 s = .next t) ∨ (s.here.seq = .tWrite ∧ unitT5 s = .next t) := by
  simp only [exec, execTick] at h
  split at h <;> simp_all

/-- A command writes no port but the one of its step. -/
theorem exec_other_ports {i : Instr} {s t : State} (h : exec i s = .next t) :
    t.env.port = s.env.port ∧ t.nports = s.nports ∧ ∀ q, q ≠ s.env.port → t.portAt q = s.portAt q := by
  have hset : ∀ (u : State) (x : Port) (q : Nat), q ≠ u.env.port → (u.setHere x).portAt q = u.portAt q :=
    fun u x q hq => u.portAt_setPort_ne x hq
  cases i with
  | gate ts =>
    obtain rfl := execGate_next h
    exact ⟨rfl, by simp, fun q hq => hset _ _ q hq⟩
  | rwrite v =>
    rcases execRwrite_next h with ⟨-, rfl⟩ | ⟨-, rfl⟩
    · exact ⟨rfl, rfl, fun _ _ => rfl⟩
    · exact ⟨rfl, by simp, fun q hq => hset _ _ q hq⟩
  | rdpkt =>
    rcases execRdpkt_next h with ⟨-, rfl⟩ | ⟨-, rfl⟩
    · exact ⟨rfl, rfl, fun _ _ => rfl⟩
    · exact ⟨rfl, by simp, fun q hq => hset _ _ q hq⟩
  | rstcur =>
    rcases execRstcur_next h with ⟨-, rfl⟩ | ⟨-, rfl⟩
    · exact ⟨rfl, rfl, fun _ _ => rfl⟩
    · exact ⟨rfl, by simp, fun q hq => hset _ _ q hq⟩
  | seten e =>
    obtain rfl := execSeten_next h
    exact ⟨rfl, by simp, fun q hq => hset _ _ q hq⟩
  | tick ts =>
    rcases execTick_next h with ⟨-, h⟩ | ⟨-, h⟩ | ⟨-, h⟩ | ⟨-, h⟩ | ⟨-, h⟩ | ⟨-, h⟩
    · rcases unitT0_next h with ⟨-, rfl⟩ | ⟨-, -, rfl⟩ | ⟨-, -, rfl⟩
      · exact ⟨rfl, by simp, fun q hq => hset _ _ q hq⟩
      · exact ⟨rfl, by simp, fun q hq => hset _ _ q hq⟩
      · exact ⟨rfl, by simp, fun q hq =>
          (hset ((s.setLastTs ts).setTsl ts) _ q hq).trans (hset (s.setLastTs ts) _ q hq)⟩
    · rcases unitT1_next h with ⟨-, rfl⟩ | ⟨-, rfl⟩
      · exact ⟨rfl, rfl, fun _ _ => rfl⟩
      · exact ⟨rfl, by simp, fun q hq => hset _ _ q hq⟩
    · rcases unitT2_next h with ⟨-, rfl⟩ | ⟨-, rfl⟩
      · exact ⟨rfl, rfl, fun _ _ => rfl⟩
      · exact ⟨rfl, by simp, fun q hq => hset _ _ q hq⟩
    · rcases unitT3_next h with ⟨-, rfl⟩ | ⟨r, -, rfl⟩
      · exact ⟨rfl, rfl, fun _ _ => rfl⟩
      · exact ⟨rfl, by simp, fun q hq =>
          (hset ((s.logTx (.read Config.xferLen r)).setRxb r) _ q hq).trans (hset (s.logTx (.read Config.xferLen r)) _ q hq)⟩
    · obtain rfl := unitT4_next h
      exact ⟨rfl, by simp, fun q hq => hset _ _ q hq⟩
    · rcases unitT5_next h with ⟨-, rfl⟩ | ⟨-, rfl⟩
      · exact ⟨rfl, rfl, fun _ _ => rfl⟩
      · exact ⟨rfl, by simp, fun q hq =>
          (hset ((s.ringWrite (tickValues s.here.rxb)).respond false true []) _ q hq).trans (hset (s.ringWrite (tickValues s.here.rxb)) _ q hq)⟩

/-! ### The step -/

/-- A sequencer's turn that answers a next state (R27): the TICK in progress goes on; or nothing is accepted, because the
previous response stands or no frame is shown; or a frame is answered ILLEGAL; or a legal frame's command runs. -/
theorem runSequencer_next {s t : State} (h : runSequencer s = .next t) :
    (s.here.seq ≠ .idle ∧ exec (.tick s.here.tsl) s = .next t) ∨
      (s.here.seq = .idle ∧ (s.here.chan.response ≠ none ∨ s.here.chan.frame = none) ∧ t = s) ∨
      (s.here.seq = .idle ∧ s.here.chan.response = none ∧ ∃ f, s.here.chan.frame = some f ∧
        ((∃ e, decode s.env.params.tsW f = .error e ∧ acceptAfter (answerIllegal s) = .next t) ∨
          ∃ i, decode s.env.params.tsW f = .ok i ∧ acceptAfter (exec i s) = .next t)) := by
  unfold runSequencer at h
  split at h
  · next hi =>
    unfold runIdle at h
    split at h
    · next hr => cases h; exact Or.inr (Or.inl ⟨hi, Or.inl (by simp [hr]), rfl⟩)
    · next hr hf => cases h; exact Or.inr (Or.inl ⟨hi, Or.inr hf, rfl⟩)
    · next f hr hf =>
      refine Or.inr (Or.inr ⟨hi, hr, f, hf, ?_⟩)
      unfold runFrame at h
      split at h
      · next i hd => exact Or.inr ⟨i, hd, h⟩
      · next e hd => exact Or.inl ⟨e, hd, h⟩
  · next hi => exact Or.inl ⟨hi, h⟩

/-- Every way a step can lead to a next state: no input; the reset input; a move at a port that exists (R59, R201). -/
theorem step_next {s t : State} (h : step s = .next t) :
    (s.env.inputs = [] ∧ t = s) ∨
      ∃ i rest, s.env.inputs = i :: rest ∧
        ((i.reset = true ∧ t = (s.withInputs rest).applyReset) ∨
          (i.reset = false ∧ i.move.port < s.nports ∧ applyMove i.move (s.withInputs rest) = .next t)) := by
  unfold step nextStep at h
  split at h
  · next hi => cases h; exact Or.inl ⟨hi, rfl⟩
  · next i rest hi => exact Or.inr ⟨i, rest, hi, applyInput_next h⟩

end Sys2Proof.Machine
end

