-- ==== Sys2Proof/Laws/Fairness.lean ====
section
/-! SUPPORT. What one step of a run without end can do, and when a port is able to run, phase by phase. -/

namespace Sys2Proof.Machine

/-! ### When a port is able to run -/

section
variable {s : State} {p : Nat}

theorem State.ableToRun_tXport (h : (s.portAt p).seq = .tXport) : s.ableToRun p = s.xportOwner.isNone := by
  simp [State.ableToRun, h]

theorem State.ableToRun_tAddr (h : (s.portAt p).seq = .tAddr) : s.ableToRun p = false := by
  simp [State.ableToRun, h]

theorem State.ableToRun_tRead (h : (s.portAt p).seq = .tRead) : s.ableToRun p = false := by
  simp [State.ableToRun, h]

theorem State.ableToRun_tDesel (h : (s.portAt p).seq = .tDesel) : s.ableToRun p = true := by
  simp [State.ableToRun, h]

theorem State.ableToRun_tWrite (h : (s.portAt p).seq = .tWrite) : s.ableToRun p = !s.lock := by
  simp [State.ableToRun, h]

/-- At LOCK = 0 every frame is able to run (R60). -/
theorem State.frameAbleToRun_free (f : Frame) (h : s.lock = false) : s.frameAbleToRun f = true := by
  unfold State.frameAbleToRun
  split <;> simp [h]

/-- An idle port with its response taken is able to run the frame it is shown, at LOCK = 0 (R27, R60). -/
theorem State.ableToRun_idle {f : Frame} (h : (s.portAt p).seq = .idle) (hr : (s.portAt p).chan.response = none)
    (hf : (s.portAt p).chan.frame = some f) (hl : s.lock = false) : s.ableToRun p = true := by
  simp [State.ableToRun, h, hr, hf, State.frameAbleToRun_free f hl]

end

/-! ### The steps of a run -/

@[simp] theorem Input.turn_reset (p : Nat) (a : Option TxAnswer) : (Input.turn p a).reset = false := rfl
@[simp] theorem Input.turn_move (p : Nat) (a : Option TxAnswer) : (Input.turn p a).move = .run p a := rfl

/-- The same input gives the same turn. -/
theorem Input.turn_inj {p q : Nat} {a b : Option TxAnswer} : Input.turn p a = Input.turn q b ↔ p = q ∧ a = b := by
  simp [Input.turn]

/-- Every way a run can go on: no agent moves; reset; a move at a port that exists. -/
theorem IsRun.next {states : Nat → State} {inputs : Nat → Option Input} (h : IsRun states inputs) (n : Nat) :
    (inputs n = none ∧ states (n + 1) = (states n).withInputs []) ∨
      ∃ i, inputs n = some i ∧
        ((i.reset = true ∧ states (n + 1) = ((states n).withInputs []).applyReset) ∨
          (i.reset = false ∧ i.move.port < (states n).nports ∧
            applyMove i.move ((states n).withInputs []) = .next (states (n + 1)))) := by
  have hn := h n
  cases hi : inputs n with
  | none =>
    rw [hi] at hn
    exact Or.inl ⟨rfl, (Host.Outcome.next.inj hn).symm⟩
  | some i =>
    rw [hi] at hn
    exact Or.inr ⟨i, rfl, applyInput_next hn⟩

/-- A turn in a run is the turn of a sequencer (R59). -/
theorem IsRun.turn {states : Nat → State} {inputs : Nat → Option Input} (h : IsRun states inputs) {n p : Nat}
    {a : Option TxAnswer} (hi : inputs n = some (.turn p a)) :
    runSequencer (((states n).withInputs []).turn p a) = .next (states (n + 1)) := by
  rcases h.next n with ⟨hn, -⟩ | ⟨i, hi', ⟨hr, -⟩ | ⟨-, -, hm⟩⟩
  · rw [hi] at hn; cases hn
  · rw [hi, Option.some.injEq] at hi'; subst hi'; cases hr
  · rw [hi, Option.some.injEq] at hi'; subst hi'; exact hm

/-- A TICK's turn in a run is the unit it stands at (R28, R56). -/
theorem IsRun.tick_turn {states : Nat → State} {inputs : Nat → Option Input} (h : IsRun states inputs) {n p : Nat}
    {a : Option TxAnswer} (hi : inputs n = some (.turn p a)) (hs : ((states n).portAt p).seq ≠ .idle) :
    exec (.tick ((states n).portAt p).tsl) (((states n).withInputs []).turn p a) = .next (states (n + 1)) := by
  rcases runSequencer_next (h.turn hi) with ⟨-, he⟩ | ⟨hs', -⟩ | ⟨hs', -⟩
  · exact he
  · exact absurd hs' hs
  · exact absurd hs' hs

end Sys2Proof.Machine
end

