-- ==== Sys2Proof/Laws/PerInstr.lean ====
section
/-! SUPPORT. Statements made once per command, with one lemma per constructor of Instr. -/

namespace Sys2Proof.Laws.EncodedFormat

/-- The frame of a command is the header of its opcode and a payload that gives it the length of its format, at every
timestamp width (R71, R73). -/
def Statement (i : Instr) : Prop :=
  ∀ tsW, ∃ e payload, encode tsW i = header i.opcode e :: payload ∧ payload.length + 1 = frameLength tsW i.opcode

theorem gate (ts : Nat) : Statement (.gate ts) := fun tsW =>
  ⟨false, Machine.leBytes (Machine.tsb tsW) ts, rfl, by simp [Instr.opcode, frameLength, Nat.add_comm]⟩

theorem rwrite (v : AxisValues) : Statement (.rwrite v) := fun _ => ⟨false, Machine.axisPayload v, rfl, rfl⟩

theorem rdpkt : Statement .rdpkt := fun _ => ⟨false, [], rfl, rfl⟩

theorem rstcur : Statement .rstcur := fun _ => ⟨false, [], rfl, rfl⟩

theorem tick (ts : Nat) : Statement (.tick ts) := fun tsW =>
  ⟨false, Machine.leBytes (Machine.tsb tsW) ts, rfl, by simp [Instr.opcode, frameLength, Nat.add_comm]⟩

theorem seten (e : Bool) : Statement (.seten e) := fun _ => ⟨e, [], rfl, rfl⟩

end Sys2Proof.Laws.EncodedFormat
end

