-- ==== Sys2Proof/Laws/Units.lean ====
section
/-! SUPPORT. Units run one after the other: what one unit does to RING, CURSOR and LOCK, and the small lemmas of runs. -/

namespace Sys2Proof.Machine

@[simp] theorem execUnits_nil (s : State) : execUnits [] s = .next s := rfl
@[simp] theorem ringWrites_nil (s : State) : ringWrites [] s = [] := rfl

/-- A run goes on from the state its first unit left. -/
theorem execUnits_cons {u : PortUnit} {s t : State} (us : List PortUnit) (h : u.run s = .next t) :
    execUnits (u :: us) s = execUnits us t := by
  simp [execUnits, h]

/-- The ring writes of a run are its first unit's, if any, and then those of the rest. -/
theorem ringWrites_cons {u : PortUnit} {s t : State} (us : List PortUnit) (h : u.run s = .next t) :
    ringWrites (u :: us) s = (u.ringWrite s).toList ++ ringWrites us t := by
  simp [ringWrites, h]

/-- A unit of a TICK before U_T5 completes or holds, and leaves RING, CURSOR and LOCK as they are (R152 to R155). -/
theorem execTick_before_write (ts : Nat) {s : State} (h : s.here.seq ≠ .tWrite) :
    ∃ t, exec (.tick ts) s = .next t ∧ t.ring = s.ring ∧ t.cursor = s.cursor ∧ t.lock = s.lock := by
  simp only [exec, execTick]
  split
  · unfold unitT0; split <;> [skip; split] <;> exact ⟨_, rfl, rfl, rfl, rfl⟩
  · unfold unitT1; split <;> exact ⟨_, rfl, rfl, rfl, rfl⟩
  · unfold unitT2; split <;> exact ⟨_, rfl, rfl, rfl, rfl⟩
  · unfold unitT3; split <;> exact ⟨_, rfl, rfl, rfl, rfl⟩
  · exact ⟨_, rfl, rfl, rfl, rfl⟩
  · contradiction

/-- What one unit does to RING and CURSOR at LOCK = 0 (R57): a ring write writes one generation and advances CURSOR,
RSTCUR clears CURSOR, and every other unit leaves both. LOCK is free again. -/
theorem PortUnit.run_ring (u : PortUnit) {s : State} (hl : s.lock = false) :
    ∃ t, u.run s = .next t ∧ t.lock = false ∧
      (∀ v, u.ringWrite s = some v → t.ring = s.ring.write s.cursor v ∧ t.cursor = satInc s.cursor) ∧
      (u.ringWrite s = none → t.ring = s.ring ∧ t.cursor = if u.command = .rstcur then 0 else s.cursor) := by
  obtain ⟨p, i, a⟩ := u
  have hl' : (s.turn p a).lock = false := hl
  cases i with
  | gate ts => exact ⟨_, rfl, hl, by simp [PortUnit.ringWrite, hl], fun _ => ⟨rfl, by simp [State.turn]⟩⟩
  | rwrite v =>
    refine ⟨_, execRwrite_free v hl', rfl, ?_, by simp [PortUnit.ringWrite, hl]⟩
    intro w hw
    simp only [PortUnit.ringWrite, hl, Option.some.injEq] at hw
    subst hw
    exact ⟨rfl, rfl⟩
  | rdpkt => exact ⟨_, execRdpkt_free hl', rfl, by simp [PortUnit.ringWrite, hl], fun _ => ⟨rfl, by simp [State.turn]⟩⟩
  | rstcur => exact ⟨_, execRstcur_free hl', rfl, by simp [PortUnit.ringWrite, hl], fun _ => ⟨rfl, by simp⟩⟩
  | seten e => exact ⟨_, rfl, hl, by simp [PortUnit.ringWrite, hl], fun _ => ⟨rfl, by simp [State.turn]⟩⟩
  | tick ts =>
    by_cases hw : s.seqAt p = .tWrite
    · have hx : exec (.tick ts) (s.turn p a) = unitT5 (s.turn p a) := by
        have hh : (s.turn p a).here.seq = .tWrite := hw
        simp [exec, execTick, hh]
      refine ⟨_, hx.trans (unitT5_free hl'), rfl, ?_, by simp [PortUnit.ringWrite, hl, hw]⟩
      intro v hv
      simp only [PortUnit.ringWrite, hl, hw, if_true, Option.some.injEq] at hv
      subst hv
      exact ⟨rfl, rfl⟩
    · obtain ⟨t, ht, hr, hc, hk⟩ := execTick_before_write ts (s := s.turn p a) hw
      refine ⟨t, ht, hk.trans hl, by simp [PortUnit.ringWrite, hl, hw], fun _ => ⟨hr, ?_⟩⟩
      simpa using hc

end Sys2Proof.Machine
end

