-- ==== Sys2Proof/Tests/Slice0.lean ====
section
/-! SUPPORT. Tests from the spec's own examples (30_encoding.md R84, 95_test_vectors.md), and for every statement with
hypotheses a state and operands that meet them all. -/

namespace Sys2Proof.Tests

open Sys2Proof.Machine

/-- The next state of an outcome satisfies f. -/
def nextHas (o : Result) (f : State → Bool) : Bool :=
  match o with
  | .next t => f t
  | .fault _ => false
  | .refused _ => false

/-- The test vectors' machine: TS_W = 32, T = 2500 (95_test_vectors.md), reset state. -/
def base : State :=
  { State.reset with env := { State.reset.env with params := { tsW := 32, gateThreshold := 2500, gyroAddrByte := 0x22 } } }

/-- The same machine with acquisition enabled. -/
def enabledBase : State := { base with enabled := true }

/-- Port 0 in a phase, with these transport bytes. -/
def inPhase (ph : Phase) (s : State) : State := s.setPort 0 { Port.reset with seq := ph, rxb := sample }
where
  /-- The transport bytes of program P1, step 2. -/
  sample : XferBytes :=
    { r0 := 0x01, r1 := 0x02, r2 := 0x03, r3 := 0x04, r4 := 0x05, r5 := 0x06
      r6 := 0xAA, r7 := 0xBB, r8 := 0xCC, r9 := 0xDD, r10 := 0xEE, r11 := 0xFF }

/-- Port 0 shows a frame and has the next turn, with what the transport completes. -/
def turnWith (f : Frame) (a : Option TxAnswer) (s : State) : State :=
  (s.present 0 f).withInputs [{ reset := false, move := .run 0 a }]

/-- The sample W1 of program P2. -/
def w1 : AxisValues := { gx := 0xA001, gy := 0xB001, gz := 0xC001, ax := 0xD001, ay := 0xE001, az := 0xF001 }

/-! ### WellFormed: the check, and terms it refuses -/

theorem test_wellFormed_largest_timestamp : (Instr.gate 255).wellFormed 8 = true := by decide
theorem test_wellFormed_refuses_gate : (Instr.gate 256).wellFormed 8 = false := by decide
theorem test_wellFormed_refuses_tick : (Instr.tick 4294967296).wellFormed 32 = false := by decide

/-! ### Decoding: words from R84 and 95_test_vectors.md 2.6 -/

theorem test_decode_gate : decode 32 [0x01, 0xB8, 0x0B, 0x00, 0x00] = .ok (.gate 3000) := rfl
theorem test_decode_tick : decode 32 [0x05, 0x00, 0xF0, 0xFF, 0xFF] = .ok (.tick 0xFFFFF000) := rfl
theorem test_decode_rwrite :
    decode 32 [0x02, 0x00, 0x80, 0xFF, 0xFF, 0x00, 0x00, 0xFF, 0x7F, 0x02, 0x01, 0x01, 0xFE] =
      .ok (.rwrite { gx := 0x8000, gy := 0xFFFF, gz := 0x0000, ax := 0x7FFF, ay := 0x0102, az := 0xFE01 }) := rfl
theorem test_decode_rdpkt : decode 32 [0x03] = .ok .rdpkt := rfl
theorem test_decode_rstcur : decode 32 [0x04] = .ok .rstcur := rfl
theorem test_decode_seten : decode 32 [0x16] = .ok (.seten true) ∧ decode 32 [0x06] = .ok (.seten false) := ⟨rfl, rfl⟩
theorem test_decode_narrow_timestamp : decode 24 [0x01, 0x00, 0x00, 0x01] = .ok (.gate 0x010000) := rfl
theorem test_decode_partial_byte_timestamp : decode 25 [0x01, 0x00, 0x00, 0x00, 0x01] = .ok (.gate 0x01000000) := rfl
theorem test_decode_empty : decode 32 [] = .error .emptyFrame := rfl
theorem test_decode_reserved_opcodes :
    decode 32 [0x00] = .error .reservedOpcode ∧ decode 32 [0x07] = .error .reservedOpcode ∧
      decode 32 [0x0F] = .error .reservedOpcode := ⟨rfl, rfl, rfl⟩
theorem test_decode_reserved_field : decode 32 [0x23] = .error .reservedField := rfl
theorem test_decode_enable_bit :
    decode 32 [0x13] = .error .enableBit ∧ decode 32 [0x15, 0xB8, 0x0B, 0x00, 0x00] = .error .enableBit := ⟨rfl, rfl⟩
theorem test_decode_wrong_length :
    decode 32 [0x03, 0x00] = .error .wrongLength ∧ decode 32 [0x01, 0xB8, 0x0B, 0x00] = .error .wrongLength ∧
      decode 32 [0x02, 0x01, 0x02, 0x03, 0x04, 0x05, 0x06, 0x07, 0x08, 0x09, 0x0A, 0x0B] = .error .wrongLength :=
  ⟨rfl, rfl, rfl⟩
theorem test_decode_timestamp_range : decode 25 [0x01, 0x00, 0x00, 0x00, 0x02] = .error .timestampRange := rfl
theorem test_decodeTableWord :
    decodeTableWord 40 0x00000BB801 = some (.gate 3000) ∧ decodeTableWord 8 0x05 = some (.tick 0) ∧
      decodeTableWord 8 0x03 = some .rdpkt ∧ decodeTableWord 8 0x16 = some (.seten true) ∧
      decodeTableWord 8 0x00 = none := ⟨rfl, rfl, rfl, rfl, rfl⟩

/-! ### Assembler: R82 to R84 -/

theorem test_assemble_gate :
    assembleLine 32 ['G', 'A', 'T', 'E', ' ', ' ', '3', '0', '0', '0', ' ', ';', 'x'] =
      .ok (some [0x01, 0xB8, 0x0B, 0x00, 0x00]) := by decide
theorem test_assemble_rwrite :
    assembleLine 32 ['R', 'W', 'R', 'I', 'T', 'E', ' ', '0', 'x', '0', '2', '0', '1', ',', ' ', '1', ',', '2', ',', '3', ',',
      '4', ',', '0', 'x', 'F', 'e'] =
      .ok (some [0x02, 0x01, 0x02, 0x01, 0x00, 0x02, 0x00, 0x03, 0x00, 0x04, 0x00, 0xFE, 0x00]) := by decide
theorem test_assemble_enable :
    assembleLine 32 ['E', 'N', 'A', 'B', 'L', 'E'] = .ok (some [0x16]) ∧
      assembleLine 32 ['S', 'E', 'T', 'E', 'N', ' ', '2'] = .error .outOfRange := by decide

/-! ### Rate gate: 95_test_vectors.md 1 and 2.1 -/

theorem test_gate_wrap_example : diff 32 0xFFFFFFFA 10 = 15 := by decide
theorem test_gate_table_8_bits :
    gateEval 8 10 250 5 = (false, 250) ∧ gateEval 8 10 250 6 = (true, 6) ∧ gateEval 8 10 5 15 = (false, 5) ∧
      gateEval 8 10 5 16 = (true, 16) ∧ gateEval 8 10 200 100 = (true, 100) := by decide
theorem test_gate_at_threshold :
    nextHas (exec (.gate 2500) base) (fun t => t.lastTs == 0 && t.responseAt 0 == some [0x00]) = true := by decide
theorem test_gate_above_threshold :
    nextHas (exec (.gate 2501) base) (fun t => t.lastTs == 2501 && t.responseAt 0 == some [0x02]) = true := by decide

/-! ### Sample ring: 95_test_vectors.md 1 (V-S6), 2.2, 2.3 -/

theorem test_rwrite_saturated_overwrites :
    nextHas (exec (.rwrite w1) { base with cursor := 2 })
      (fun t => t.cursor == 2 && t.ring.entry .gx 2 == 0xA001 && t.ring.entry .az 2 == 0xF001 &&
        t.ring.entry .gx 1 == 0) = true := by decide
theorem test_rwrite_advances :
    nextHas (exec (.rwrite { gx := 1, gy := 2, gz := 3, ax := 4, ay := 5, az := 6 }) base)
      (fun t => t.cursor == 1 &&
        t.ring.ser.take 12 == [0x05, 0x00, 0x04, 0x00, 0x06, 0x00, 0x02, 0x00, 0x01, 0x00, 0x03, 0x00]) = true := by
  decide
/-- The vector of 2.3. -/
theorem test_ser_vector :
    ({ gx := { g0 := 0xA010, g1 := 0xA020, g2 := 0xA030 }, gy := { g0 := 0xA111, g1 := 0xA121, g2 := 0xA131 },
       gz := { g0 := 0xA212, g1 := 0xA222, g2 := 0xA232 }, ax := { g0 := 0xA313, g1 := 0xA323, g2 := 0xA333 },
       ay := { g0 := 0xA414, g1 := 0xA424, g2 := 0xA434 }, az := { g0 := 0xA515, g1 := 0xA525, g2 := 0xA535 } } : Ring).ser =
      [0x14, 0xA4, 0x13, 0xA3, 0x15, 0xA5, 0x11, 0xA1, 0x10, 0xA0, 0x12, 0xA2,
       0x24, 0xA4, 0x23, 0xA3, 0x25, 0xA5, 0x21, 0xA1, 0x20, 0xA0, 0x22, 0xA2,
       0x34, 0xA4, 0x33, 0xA3, 0x35, 0xA5, 0x31, 0xA1, 0x30, 0xA0, 0x32, 0xA2] := by decide
theorem test_rdpkt_after_reset :
    nextHas (exec .rdpkt base) (fun t => t.responseAt 0 == some (List.replicate 37 0x00)) = true := by decide
theorem test_rstcur_keeps_ring :
    nextHas (exec .rstcur { base with cursor := 2, ring := base.ring.write 1 w1 })
      (fun t => t.cursor == 0 && t.ring.entry .gy 1 == 0xB001 && t.responseAt 0 == some [0x00]) = true := by decide

/-! ### Acquisition: 95_test_vectors.md 2.5, P1, P4 -/

theorem test_tick_disabled :
    nextHas (exec (.tick 5000) base) (fun t => t.lastTs == 0 && t.seqAt 0 == .idle && t.responseAt 0 == some [0x00]) = true := by
  decide
theorem test_tick_ring_write :
    nextHas (exec (.tick 3000) (inPhase .tWrite enabledBase))
      (fun t => t.ring.ser.take 12 == [0xBA, 0x00, 0xBC, 0xFE, 0x19, 0x10, 0x03, 0x04, 0x01, 0x02, 0x05, 0x06] &&
        t.cursor == 1 && t.responseAt 0 == some [0x02] && t.seqAt 0 == .idle) = true := by decide
theorem test_seten_enables :
    nextHas (exec (.seten true) base) (fun t => t.enabled && t.responseAt 0 == some [0x00]) = true := by decide
theorem test_seten_disables :
    nextHas (exec (.seten false) enabledBase) (fun t => !t.enabled && t.cursor == 0) = true := by decide

/-! ### The step -/

theorem test_step_takes_frame :
    nextHas (step (turnWith [0x16] none base))
      (fun t => t.enabled && t.frameAt 0 == none && t.responseAt 0 == some [0x00]) = true := by decide
theorem test_step_illegal_frame :
    nextHas (step (turnWith [0x23] none base)) (fun t => t.responseAt 0 == some [0x01] && t.frameAt 0 == none) = true := by
  decide
theorem test_step_held_frame_stays :
    nextHas (step (turnWith [0x03] none { base with lock := true }))
      (fun t => t.responseAt 0 == none && t.frameAt 0 == some [0x03]) = true := by decide
theorem test_withFetchWord_runs_first :
    nextHas (step (State.reset.withFetchWord 8 0x16)) (fun t => t.enabled && t.responseAt 0 == some [0x00]) = true := by
  decide
theorem test_reset_deasserts_select :
    nextHas (step ({ inPhase .tRead base with sel := true, xportOwner := some 0 }.withInputs
        [{ reset := true, move := .run 0 none }]))
      (fun t => !t.sel && t.xportOwner == none && t.seqAt 0 == .idle && t.env.stream == [.selDeassert]) = true := by
  decide

/-! ### Witnesses: the hypotheses of each statement are met, clause by clause -/

theorem witness_DecodeOfEncodeIsTheCommand : (Instr.tick 255).wellFormed 8 = true := by decide
theorem witness_EncodeOfDecodeIsTheFrame : decode 8 [0x05, 0xFF] = .ok (.tick 255) := rfl
theorem witness_FrameIsLegalWhenTheSixChecksHold : decode 25 [0x01, 0xFF, 0xFF, 0xFF, 0x01] = .ok (.gate (2 ^ 25 - 1)) := rfl
theorem witness_ExactlySevenHeadersAreLegal : decode 1 [0x05, 0x01] = .ok (.tick 1) ∧ decode 1 [0x16] = .ok (.seten true) :=
  ⟨rfl, rfl⟩
/-- Both clauses at their boundary: `2^25 - 1` is below, `2^25` at the bound. -/
theorem witness_TimestampOperandIsTheLittleEndianSum :
    [(0xFF : Byte), 0xFF, 0xFF, 0x01].length = (25 + 7) / 8 ∧ leNat [0xFF, 0xFF, 0xFF, 0x01] = 2 ^ 25 - 1 ∧
      leNat [0x00, 0x00, 0x00, 0x02] = 2 ^ 25 := by decide
theorem witness_AxisOperandsTakeTheirTwoBytes : (axisPayload w1).length = 12 := by decide
theorem witness_StreamDecoderTakesOneFrame : (Instr.gate 0).wellFormed 1 = true := by decide
theorem witness_AssembledFramesDecode :
    assembleLine 8 ['T', 'I', 'C', 'K', ' ', '0', 'x', 'f', 'F'] = .ok (some [0x05, 0xFF]) ∧
      assembleLine 8 ['E', 'N', 'A', 'B', 'L', 'E'] = .ok (some [0x16]) ∧
      assembleLine 8 ['D', 'I', 'S', 'A', 'B', 'L', 'E'] = .ok (some [0x06]) := by decide
/-- Both branches at their boundary, `ts = last - 1` and `ts = last`, and across the whole wrap. -/
theorem witness_ForwardDifferenceFallsOneShortAcrossTheWrap :
    (255 ≤ 2 ^ 8 - 1 ∧ 254 ≤ 2 ^ 8 - 1 ∧ 254 < 255) ∧ (255 ≤ 2 ^ 8 - 1 ∧ 255 ≤ (255 : Nat)) ∧
      (255 ≤ 2 ^ 8 - 1 ∧ 0 ≤ 2 ^ 8 - 1 ∧ (0 : Nat) < 255) := by decide
/-- The three clauses: equal, one above the threshold, at the threshold. -/
theorem witness_GateEvaluationIsStrict :
    ((16 : Nat) ≠ 5 ∧ 10 < diff 8 5 16) ∧ ((15 : Nat) ≠ 5 ∧ diff 8 5 15 ≤ 10) := by decide
/-- The three thresholds of R105 at TS_W = 8, and the pairs it names. -/
theorem witness_ThresholdExtremes :
    1 ≤ 8 ∧ 2 ^ 8 - 1 ≤ 255 ∧ 254 = 2 ^ 8 - 1 - 1 ∧ gateEval 8 255 0 255 = (false, 0) ∧ gateEval 8 254 0 255 = (true, 255) ∧
      gateEval 8 0 255 0 = (false, 255) := by decide
/-- A passing and a failing timestamp, at the boundary. -/
theorem witness_GateCommandWritesOnlyLastTimestamp :
    base.env.port < base.nports ∧ GatePasses base.env.params base.lastTs 2501 ∧
      ¬ GatePasses base.env.params base.lastTs 2500 := by decide
theorem witness_RepeatedGateHasNoEffect : base.env.port < base.nports ∧ ∃ t, exec (.gate 2501) base = .next t :=
  ⟨by decide, _, rfl⟩
/-- The same machine with LOCK held: a state no run reaches, and the hold clauses speak of it. -/
def locked : State := { base with lock := true }

theorem witness_RingWriteCommandWritesOneGeneration :
    (base.env.port < base.nports ∧ base.lock = false) ∧ (locked.env.port < locked.nports ∧ locked.lock = true) := by decide
theorem witness_ReadPacketAnswersOneSnapshot :
    (base.env.port < base.nports ∧ base.lock = false) ∧ (locked.env.port < locked.nports ∧ locked.lock = true) := by decide
theorem witness_ResetCursorKeepsTheRing :
    (base.env.port < base.nports ∧ base.lock = false) ∧ (locked.env.port < locked.nports ∧ locked.lock = true) := by decide
theorem witness_PacketLayout : [Axis.ay, .ax, .az, .gy, .gx, .gz][0]? = some .ay ∧
    [Axis.ay, .ax, .az, .gy, .gx, .gz][5]? = some .gz := by decide
theorem witness_PacketDeterminesTheRing : base.ring.ser = Ring.zero.ser := by decide
/-- No write, one, two, and three: the clauses' boundaries. -/
theorem witness_RingFreezesWhenTheCursorSaturates :
    base.lock = false ∧ base.cursor = 0 ∧ ringWrites [] base = [] ∧ ringWrites [⟨1, .rwrite w1, none⟩] base = [w1] ∧
      ringWrites [⟨1, .rwrite w1, none⟩, ⟨0, .rdpkt, none⟩, ⟨2, .rwrite w1, none⟩] base = [w1, w1] := by decide
/-- Three ring writes, one of them a TICK's U_T5. -/
theorem witness_RingFreezes_tick :
    (inPhase .tWrite base).lock = false ∧ (inPhase .tWrite base).cursor = 0 ∧
      ringWrites [⟨1, .rwrite w1, none⟩, ⟨0, .tick 0, none⟩, ⟨2, .rwrite w1, none⟩] (inPhase .tWrite base) =
        [w1, tickValues inPhase.sample, w1] := by decide
theorem witness_IdempotentCommands :
    (∃ t, exec .rdpkt base = .next t) ∧ (∃ t, exec .rstcur base = .next t) ∧ (∃ t, exec (.seten true) base = .next t) ∧
      (∃ t, exec (.rwrite w1) { base with cursor := 2 } = .next t) :=
  ⟨⟨_, rfl⟩, ⟨_, rfl⟩, ⟨_, rfl⟩, ⟨_, rfl⟩⟩
theorem witness_SetEnableWritesOnlyEnabled : base.env.port < base.nports := by decide
/-- Disabled; enabled at the threshold; enabled one above it. -/
theorem witness_TickStartsOnlyOnAnEnabledGatePass :
    (base.env.port < base.nports ∧ base.seqAt base.env.port = .idle ∧ base.enabled = false) ∧
      (enabledBase.seqAt enabledBase.env.port = .idle ∧ enabledBase.enabled = true ∧
        ¬ GatePasses enabledBase.env.params enabledBase.lastTs 2500 ∧
        GatePasses enabledBase.env.params enabledBase.lastTs 2501) := by decide
theorem witness_TickTakesTheTransportOrHolds :
    ((inPhase .tXport base).env.port < (inPhase .tXport base).nports ∧ (inPhase .tXport base).seqAt 0 = .tXport ∧
      (inPhase .tXport base).xportOwner = none) ∧
      (({ inPhase .tXport base with xportOwner := some 1 } : State).seqAt 0 = .tXport ∧
        0 < ({ inPhase .tXport base with xportOwner := some 1 } : State).nports ∧
        ({ inPhase .tXport base with xportOwner := some 1 } : State).xportOwner ≠ none) := by decide
theorem witness_TickTransfersJointlyWithTheTransport :
    ((inPhase .tAddr base).env.port < (inPhase .tAddr base).nports ∧ (inPhase .tAddr base).seqAt 0 = .tAddr ∧
      (inPhase .tAddr base).env.answer ≠ some .taken ∧
      ((inPhase .tAddr base).turn 0 (some .taken)).env.answer = some .taken) ∧
      ((inPhase .tRead base).env.port < (inPhase .tRead base).nports ∧ (inPhase .tRead base).seqAt 0 = .tRead ∧
        ((inPhase .tRead base).turn 0 (some (.bytes .zero))).env.answer = some (.bytes .zero)) := by decide
theorem witness_TickTransfers_holds : ∀ r, (inPhase .tRead base).env.answer ≠ some (.bytes r) := fun _ h => by cases h
theorem witness_TickReleasesTheTransport :
    (inPhase .tDesel base).env.port < (inPhase .tDesel base).nports ∧ (inPhase .tDesel base).seqAt 0 = .tDesel := by decide
theorem witness_TickWritesGyroBytesAndAccelConstants :
    ((inPhase .tWrite base).env.port < (inPhase .tWrite base).nports ∧ (inPhase .tWrite base).seqAt 0 = .tWrite ∧
      (inPhase .tWrite base).lock = false) ∧
      ((inPhase .tWrite locked).env.port < (inPhase .tWrite locked).nports ∧ (inPhase .tWrite locked).seqAt 0 = .tWrite ∧
        (inPhase .tWrite locked).lock = true) := by decide

/-- The machine of P1 step 2, with its six turns to come. -/
def p1Tick : State :=
  (enabledBase.present 0 [0x05, 0xB8, 0x0B, 0x00, 0x00]).withInputs
    ([none, none, some .taken, some (.bytes inPhase.sample), none, none].map fun a =>
      { reset := false, move := .run 0 a })

theorem witness_TickCompletesInSixTurns :
    0 < p1Tick.nports ∧ p1Tick.seqAt 0 = .idle ∧ p1Tick.responseAt 0 = none ∧
      p1Tick.frameAt 0 = some [0x05, 0xB8, 0x0B, 0x00, 0x00] ∧ p1Tick.enabled = true ∧
      GatePasses p1Tick.env.params p1Tick.lastTs 3000 ∧ p1Tick.lock = false ∧ p1Tick.xportOwner = none := by decide
theorem witness_TickCompletes_decodes :
    decode p1Tick.env.params.tsW [0x05, 0xB8, 0x0B, 0x00, 0x00] = .ok (.tick 3000) := rfl
theorem witness_TickCompletes_inputs :
    p1Tick.env.inputs = [none, none, some .taken, some (.bytes inPhase.sample), none, none].map
      (fun a => { reset := false, move := .run 0 a }) ++ [] := by decide
/-- The same TICK with a move of another port in every gap. -/
def p1TickAmongMoves : State :=
  p1Tick.withInputs
    [.turn 0 none, ⟨false, .present 1 [0x16]⟩, .turn 0 none, .turn 1 none, .turn 0 (some .taken), ⟨false, .take 1⟩,
      .turn 0 (some (.bytes inPhase.sample)), ⟨false, .present 1 [0x04]⟩, .turn 0 none, .turn 1 none, .turn 0 none]

theorem witness_TickCompletesAmongOtherPortsMoves :
    p1TickAmongMoves.Inv ∧
      p1TickAmongMoves.env.inputs =
        .turn 0 none :: [⟨false, .present 1 [0x16]⟩] ++ .turn 0 none :: [.turn 1 none] ++ .turn 0 (some .taken) ::
          [⟨false, .take 1⟩] ++ .turn 0 (some (.bytes inPhase.sample)) :: [⟨false, .present 1 [0x04]⟩] ++
            .turn 0 none :: [.turn 1 none] ++ .turn 0 none :: [] ∧
      Input.elsewhere 0 3 ⟨false, .present 1 [0x16]⟩ ∧ Input.elsewhere 0 3 (.turn 1 none) ∧
      Input.elsewhere 0 3 ⟨false, .take 1⟩ ∧ Input.elsewhere 0 3 ⟨false, .present 1 [0x04]⟩ ∧
      p1TickAmongMoves.frameAt 0 = some [0x05, 0xB8, 0x0B, 0x00, 0x00] ∧ p1TickAmongMoves.seqAt 0 = .idle ∧
      p1TickAmongMoves.responseAt 0 = none ∧ p1TickAmongMoves.enabled = true ∧
      GatePasses p1TickAmongMoves.env.params p1TickAmongMoves.lastTs 3000 ∧ p1TickAmongMoves.xportOwner = none := by
  unfold Input.elsewhere; decide
theorem witness_EnableIsTakenOnce :
    (inPhase .tXport enabledBase).seqAt 0 ≠ .idle ∧ ∃ t, exec (.tick 0) (inPhase .tXport enabledBase) = .next t :=
  ⟨by decide, _, rfl⟩
theorem witness_DisabledTicksChangeNothing :
    base.env.port < base.nports ∧ base.seqAt base.env.port = .idle ∧ base.enabled = false ∧ [5000, 9000] ≠ ([] : List Nat) := by
  decide
theorem witness_SecondOfTwoEqualTicksFails :
    (0 < enabledBase.nports ∧ 1 < enabledBase.nports ∧ enabledBase.seqAt 0 = .idle ∧ enabledBase.seqAt 1 = .idle ∧
      enabledBase.enabled = true ∧ GatePasses enabledBase.env.params enabledBase.lastTs 2501) ∧
      ∃ t, exec (.tick 2501) enabledBase = .next t := ⟨by decide, _, rfl⟩
/-- The units that take a TICK at port 0 from a phase to T_WRITE. -/
def unitsToWrite : Phase → List PortUnit
  | .idle => []
  | .tXport => ⟨0, .tick 0, none⟩ :: unitsFrom 3
  | .tAddr => unitsFrom 3
  | .tRead => unitsFrom 2
  | .tDesel => unitsFrom 1
  | .tWrite => []
where
  /-- The last n units before T_WRITE. -/
  unitsFrom (n : Nat) : List PortUnit :=
    [⟨0, .tick 0, some .taken⟩, ⟨0, .tick 0, some (.bytes inPhase.sample)⟩, ⟨0, .tick 0, none⟩].drop (3 - n)

/-- The hypotheses at a phase, the TICK standing at port 0 and the RSTCUR at port 1. -/
def redirectHyps (ph : Phase) : Bool :=
  nextHas (exec .rstcur ((inPhase ph base).turn 1 none)) fun u =>
    nextHas (execUnits (unitsToWrite ph) u) fun w =>
      ringWrites (unitsToWrite ph) u == [] && w.seqAt 0 == .tWrite && !(inPhase ph base).lock &&
        (inPhase ph base).seqAt 0 == ph

/-- The five phases past U_T0. -/
theorem witness_ResetCursorRedirectsAPendingTick :
    redirectHyps .tXport = true ∧ redirectHyps .tAddr = true ∧ redirectHyps .tRead = true ∧ redirectHyps .tDesel = true ∧
      redirectHyps .tWrite = true := by decide

/-- The hypotheses about a port that is shown a frame and has the next turn. -/
theorem witness_shown_frame :
    (turnWith [0x03] none base).env.inputs = [{ reset := false, move := .run 0 none }] ∧
      0 < (turnWith [0x03] none base).nports ∧ (turnWith [0x03] none base).seqAt 0 = .idle ∧
      (turnWith [0x03] none base).responseAt 0 = none ∧ (turnWith [0x03] none base).frameAt 0 = some [0x03] := by decide
/-- The first clause: a unit that holds. -/
theorem witness_StepRunsTheDecodedCommand_held :
    (0 < (turnWith [0x03] none { base with lock := true }).nports ∧
      (turnWith [0x03] none { base with lock := true }).seqAt 0 = .idle ∧
      (turnWith [0x03] none { base with lock := true }).responseAt 0 = none ∧
      (turnWith [0x03] none { base with lock := true }).frameAt 0 = some [0x03]) ∧
      nextHas (exec .rdpkt ((turnWith [0x03] none { base with lock := true }).turn 0 none))
        (fun t => t.responseAt 0 == none && t.seqAt 0 == .idle) = true := by decide
/-- The second clause: a unit that answers. -/
theorem witness_StepRunsTheDecodedCommand_answered :
    nextHas (exec .rdpkt ((turnWith [0x03] none base).turn 0 none)) (fun t => t.responseAt 0 != none) = true := by decide
theorem witness_StepContinuesTheTickInProgress :
    0 < (turnWith [] none (inPhase .tDesel base)).nports ∧ (turnWith [] none (inPhase .tDesel base)).seqAt 0 ≠ .idle ∧
      (turnWith [] none (inPhase .tDesel base)).env.inputs = [{ reset := false, move := .run 0 none }] := by decide
theorem witness_IllegalFrameIsAnsweredAndChangesNothing :
    ((turnWith [] none base).env.inputs = [{ reset := false, move := .run 0 none }] ∧ 0 < (turnWith [] none base).nports ∧
      (turnWith [] none base).seqAt 0 = .idle ∧ (turnWith [] none base).responseAt 0 = none ∧
      (turnWith [] none base).frameAt 0 = some []) ∧
      decode (turnWith [] none base).env.params.tsW [] = .error .emptyFrame := ⟨by decide, rfl⟩
theorem witness_NoFrameIsAcceptedBeforeTheResponseIsTaken :
    (turnWith [0x16] none (base.respond false false [])).env.inputs = [{ reset := false, move := .run 0 none }] ∧
      0 < (turnWith [0x16] none (base.respond false false [])).nports ∧
      (turnWith [0x16] none (base.respond false false [])).responseAt 0 ≠ none ∧
      (turnWith [0x16] none (base.respond false false [])).seqAt 0 = .idle := by decide
/-- The other clause: no frame is shown. -/
theorem witness_NoFrameIsAccepted_none_shown :
    (base.withInputs [{ reset := false, move := .run 2 none }]).env.inputs = [{ reset := false, move := .run 2 none }] ∧
      2 < base.nports ∧ base.seqAt 2 = .idle ∧ base.frameAt 2 = none ∧ base.responseAt 2 = none := by decide
theorem witness_ResetInputComesBeforeEverything :
    (base.withInputs [{ reset := true, move := .run 0 none }]).env.inputs = [{ reset := true, move := .run 0 none }] := by
  decide

theorem witness_EveryStepKeepsTheInvariant :
    (turnWith [0x05, 0xC5, 0x09, 0x00, 0x00] none enabledBase).Inv ∧
      ∃ t, step (turnWith [0x05, 0xC5, 0x09, 0x00, 0x00] none enabledBase) = .next t := ⟨by decide, _, rfl⟩
/-- A step of each kind: one that writes the ring, one that resets the cursor, one that resets the machine. -/
theorem witness_RingChangesByWholeWritesOnly :
    (∃ t, step ((inPhase .tWrite base).withInputs [{ reset := false, move := .run 0 none }]) = .next t) ∧
      (∃ t, step (turnWith [0x04] none base) = .next t) ∧
      (∃ t, step (base.withInputs [{ reset := true, move := .take 0 }]) = .next t) := ⟨⟨_, rfl⟩, ⟨_, rfl⟩, ⟨_, rfl⟩⟩
theorem witness_OnlyAGatePassWritesLastTimestamp :
    nextHas (step (turnWith [0x01, 0xC5, 0x09, 0x00, 0x00] none base)) (fun t => t.lastTs != base.lastTs) = true := by decide
theorem witness_OnlySetEnableChangesEnabled :
    nextHas (step (turnWith [0x16] none base)) (fun t => t.enabled != base.enabled) = true := by decide
theorem witness_OnlyATickDrivesTheTransport :
    nextHas (step (turnWith [] none (inPhase .tXport base))) (fun t => t.sel != base.sel) = true := by decide
theorem witness_TransportHasAtMostOneOwner :
    ({ inPhase .tAddr base with sel := true, xportOwner := some 0 } : State).Inv ∧
      0 < ({ inPhase .tAddr base with sel := true, xportOwner := some 0 } : State).nports ∧
      (({ inPhase .tAddr base with sel := true, xportOwner := some 0 } : State).seqAt 0).holdsTransport = true := by decide
theorem witness_AMoveLeavesOtherPortsAlone :
    (turnWith [0x16] none base).env.inputs = [{ reset := false, move := .run 0 none }] ∧
      ∃ t, step (turnWith [0x16] none base) = .next t := ⟨by decide, _, rfl⟩
theorem witness_IssuerMovesChangeNoElement :
    (∀ p a, Move.present 2 [0x03] ≠ .run p a) ∧
      ∃ t, step (base.withInputs [{ reset := false, move := .present 2 [0x03] }]) = .next t :=
  ⟨fun _ _ h => (by cases h), _, rfl⟩
theorem witness_EveryNewResponseIsOneOfFour :
    (turnWith [0x03] none base).responseAt 0 = none ∧
      nextHas (step (turnWith [0x03] none base)) (fun t => t.responseAt 0 == some (List.replicate 37 0x00)) = true := by
  decide
theorem witness_NoStepChangesTheParameters : ∃ t, step base = .next t := ⟨_, rfl⟩
theorem witness_NoStepStopsAtAnExistingPort :
    ∀ i rest, (turnWith [0x16] none base).env.inputs = i :: rest → i.reset = true ∨ i.move.port < 3 := by
  intro i rest h
  obtain ⟨rfl, -⟩ := List.cons.inj h
  exact Or.inr (by decide)

/-! ### Runs without end: a script of inputs, and then no agent moves -/

/-- The states of a run over a script. -/
def scripted (s : State) : List Input → Nat → State
  | _, 0 => s
  | [], _ + 1 => s.withInputs []
  | i :: l, n + 1 =>
    match step (s.withInputs [i]) with
    | .next t => scripted t l n
    | .fault _ => s
    | .refused _ => s

/-- Every input of the script is made. -/
def completes (s : State) : List Input → Bool
  | [] => true
  | i :: l => nextHas (step (s.withInputs [i])) fun t => completes t l

theorem scripted_isRun (l : List Input) (s : State) (h : completes s l = true) :
    IsRun (scripted s l) (fun n => l[n]?) := by
  intro n
  induction n generalizing l s with
  | zero =>
    cases l with
    | nil => rfl
    | cons i l =>
      simp only [completes, nextHas] at h
      split at h
      · next t ht => simp [scripted, ht]
      · cases h
      · cases h
  | succ n ih =>
    cases l with
    | nil => rfl
    | cons i l =>
      simp only [completes, nextHas] at h
      split at h
      · next t ht => simpa [scripted, ht] using ih l t h
      · cases h
      · cases h

/-- The state a script ends in. -/
def ending (s : State) (l : List Input) : State := scripted s l (l.length + 1)

theorem scripted_ending (l : List Input) (s : State) (n : Nat) (h : l.length < n) : scripted s l n = ending s l := by
  induction l generalizing s n with
  | nil =>
    cases n with
    | zero => simp at h
    | succ n => rfl
  | cons i l ih =>
    cases n with
    | zero => simp at h
    | succ n =>
      have hn : l.length < n := by simpa using h
      simp only [ending, scripted, List.length_cons]
      split
      · exact ih _ n hn
      · rfl
      · rfl

/-- A script that leaves no port able to run is weakly fair. -/
theorem scripted_fair (l : List Input) (s : State) (h : ∀ p, p < (ending s l).nports → (ending s l).ableToRun p = false)
    (hp : ∀ n, (scripted s l n).nports = (ending s l).nports) : WeaklyFair (scripted s l) (fun n => l[n]?) := by
  intro p n hn hable
  have he := hable (max n (l.length + 1)) (Nat.le_max_left _ _)
  rw [scripted_ending l s _ (by omega), h p (by rw [← hp n]; exact hn)] at he
  cases he

/-- What a fair run is shown by a script: LOCK free and a fixed number of ports in every state of it, and no port able to
run at its end. -/
def fairScript (s : State) (l : List Input) : Bool :=
  completes s l && (List.range (l.length + 2)).all (fun n => !(scripted s l n).lock && (scripted s l n).nports == 3) &&
    (List.range 3).all fun p => !(ending s l).ableToRun p

theorem fairScript_meets (s : State) (l : List Input) (h : fairScript s l = true) :
    IsRun (scripted s l) (fun n => l[n]?) ∧ WeaklyFair (scripted s l) (fun n => l[n]?) ∧ LockReleased (scripted s l) := by
  simp only [fairScript, Bool.and_eq_true, List.all_eq_true, List.mem_range, Bool.not_eq_true', beq_iff_eq] at h
  obtain ⟨⟨hc, hs⟩, ha⟩ := h
  have hn : ∀ n, (scripted s l n).lock = false ∧ (scripted s l n).nports = 3 := by
    intro n
    by_cases hl : n < l.length + 2
    · exact hs n hl
    · rw [scripted_ending l s n (by omega)]
      exact hs (l.length + 1) (by omega)
  have he : (ending s l).nports = 3 := (hn (l.length + 1)).2
  exact ⟨scripted_isRun l s hc, scripted_fair l s (fun p hp => ha p (by omega)) (fun n => (hn n).2.trans he.symm),
    fun n => ⟨n, le_refl n, (hn n).1⟩⟩

/-- A script without reset gives a run without reset. -/
theorem scripted_noReset (l : List Input) (h : l.all (fun i => !i.reset) = true) : NoResetFrom (fun n => l[n]?) 0 := by
  rintro n - ⟨m, hm⟩
  have := List.all_eq_true.1 h _ (List.mem_of_getElem? hm)
  cases this

/-- A TICK at T_XPORT, and the five turns that end it. -/
def pendingTick : State := inPhase .tXport enabledBase
def fiveTurns : List Input :=
  [.turn 0 none, .turn 0 (some .taken), .turn 0 (some (.bytes inPhase.sample)), .turn 0 none, .turn 0 none]

theorem witness_AbleToRunIsNotHolding :
    0 < pendingTick.nports ∧ pendingTick.ableToRun 0 = true ∧ pendingTick.ableToRun 1 = false := by decide
theorem witness_StartOfARunIsStepsOfTheMachine : IsRun (scripted pendingTick fiveTurns) (fun n => fiveTurns[n]?) :=
  scripted_isRun _ _ (by decide)
theorem witness_EveryRunKeepsLockFree :
    IsRun (scripted pendingTick fiveTurns) (fun n => fiveTurns[n]?) ∧ (scripted pendingTick fiveTurns 0).lock = false :=
  ⟨scripted_isRun _ _ (by decide), by decide⟩
/-- SETEN 1 is shown and taken. -/
theorem witness_FairRunAcceptsAShownFrame :
    (IsRun (scripted (base.present 0 [0x16]) [.turn 0 none]) (fun n => [Input.turn 0 none][n]?) ∧
      WeaklyFair (scripted (base.present 0 [0x16]) [.turn 0 none]) (fun n => [Input.turn 0 none][n]?) ∧
      LockReleased (scripted (base.present 0 [0x16]) [.turn 0 none])) ∧
      NoResetFrom (fun n => [Input.turn 0 none][n]?) 0 ∧
      (∀ m, 0 ≤ m → [Input.turn 0 none][m]? ≠ some { reset := false, move := .withdraw 0 }) ∧
      0 < (base.present 0 [0x16]).nports ∧ (base.present 0 [0x16]).seqAt 0 = .idle ∧
      (base.present 0 [0x16]).responseAt 0 = none ∧ (base.present 0 [0x16]).frameAt 0 ≠ none := by
  refine ⟨fairScript_meets _ _ (by decide), scripted_noReset _ (by decide), ?_, by decide⟩
  intro m _ h
  have := List.mem_of_getElem? h
  simp [Input.turn] at this
theorem witness_FairTickEndsOrWaitsForTheTransport :
    (IsRun (scripted pendingTick fiveTurns) (fun n => fiveTurns[n]?) ∧
      WeaklyFair (scripted pendingTick fiveTurns) (fun n => fiveTurns[n]?) ∧
      LockReleased (scripted pendingTick fiveTurns)) ∧ NoResetFrom (fun n => fiveTurns[n]?) 0 ∧
      0 < pendingTick.nports ∧ pendingTick.seqAt 0 ≠ .idle :=
  ⟨fairScript_meets _ _ (by decide), scripted_noReset _ (by decide), by decide, by decide⟩
/-- The second clause's hypothesis: the same run completes the transport's requests. -/
theorem witness_FairTick_transportCompletes :
    TransportCompletes (scripted pendingTick fiveTurns) (fun n => fiveTurns[n]?) := by
  intro p n hp
  by_cases hn : n < 6
  · have hp3 : p < 3 := by interval_cases n <;> exact hp
    interval_cases n <;> interval_cases p <;>
      first
        | exact ⟨fun h => absurd h (by decide), fun h => absurd h (by decide)⟩
        | exact ⟨fun _ => ⟨1, by decide, Or.inr rfl⟩, fun h => absurd h (by decide)⟩
        | exact ⟨fun h => absurd h (by decide), fun _ => ⟨2, by decide, Or.inr ⟨_, rfl⟩⟩⟩
  · rw [scripted_ending _ _ n (by simp [fiveTurns]; omega)] at hp ⊢
    have hp3 : p < 3 := hp
    interval_cases p <;> exact ⟨fun h => absurd h (by decide), fun h => absurd h (by decide)⟩
/-- A TICK at T_ADDR, and one at T_READ, and no agent moves. -/
theorem witness_TickHangsWithoutACompletion :
    (IsRun (scripted (inPhase .tAddr base) []) (fun n => ([] : List Input)[n]?) ∧ (inPhase .tAddr base).seqAt 0 = .tAddr) ∧
      (IsRun (scripted (inPhase .tRead base) []) (fun n => ([] : List Input)[n]?) ∧ (inPhase .tRead base).seqAt 0 = .tRead) ∧
      NoResetFrom (fun n => ([] : List Input)[n]?) 0 :=
  ⟨⟨scripted_isRun _ _ rfl, by decide⟩, ⟨scripted_isRun _ _ rfl, by decide⟩, scripted_noReset _ rfl⟩
theorem witness_LivenessAssumptionsCanBeMet : 1 ≤ pendingTick.nports ∧ pendingTick.lock = false := by decide

end Sys2Proof.Tests
end

section
/-! PROOFS. The operands of the timestamp frames and of RWRITE (30_encoding.md R73 to R76). -/

namespace Sys2Proof

open Sys2Proof.Machine

/-! ### Bytes as numbers -/

/-- Byte `k` of a timestamp operand stands at bit `8k` (R74). -/
theorem leNat_eq_sum (bs : List Byte) :
    leNat bs = ((List.range bs.length).map fun k => (bs.getD k 0).toNat * 2 ^ (8 * k)).sum := by
  induction bs with
  | nil => rfl
  | cons b bs ih =>
    have hshift : ∀ k, (bs.getD k 0).toNat * 2 ^ (8 * (k + 1)) = 256 * ((bs.getD k 0).toNat * 2 ^ (8 * k)) := by
      intro k
      ring
    simp only [leNat, ih, List.length_cons, List.range_succ_eq_map, List.map_cons, List.map_map, List.sum_cons,
      Function.comp_def, List.getD_cons_zero, List.getD_cons_succ, hshift, List.sum_map_mul_left, Nat.mul_zero,
      pow_zero, Nat.mul_one]

/-- `le16` as a number: its low byte first (R7). -/
theorem le16_toNat (b0 b1 : Byte) : (le16 b0 b1).toNat = b0.toNat + 256 * b1.toNat := by
  rw [le16, BitVec.toNat_append, ← Nat.shiftLeft_add_eq_or_of_lt b0.isLt, Nat.shiftLeft_eq]
  omega

/-- A 12-byte payload gives every axis its two bytes, in the order of the axis numbers (R75). -/
theorem axisOperand_of_length {payload : List Byte} (hlen : payload.length = 12) :
    ∃ v, axisOperand payload = some v ∧
      ∀ a : Axis, v.get a = le16 (payload.getD (2 * a.number) 0) (payload.getD (2 * a.number + 1) 0) := by
  match payload, hlen with
  | [_, _, _, _, _, _, _, _, _, _, _, _], _ => exact ⟨_, rfl, fun a => by cases a <;> rfl⟩

/-! ### Frames that pass the first five checks of R76 -/

/-- Under the header of an opcode, a payload of the length of its format leaves only the operands to decode. -/
theorem decode_header (tsW : Nat) (op : Opcode) (e : Bool) (payload : List Byte) (he : e = true → op = .seten)
    (hlen : payload.length + 1 = frameLength tsW op) :
    decode tsW (header op e :: payload) = decodeOperands tsW op e payload := by
  have hbit : ¬ (e = true ∧ op ≠ .seten) := fun h => h.2 (he h.1)
  simp only [decode, headerRsv_header, opcodeOf_header, headerE_header, hlen, if_neg hbit, ne_eq, not_true_eq_false,
    if_false]

/-- A GATE frame with TSB payload bytes is its timestamp's command, if the timestamp is legal. -/
theorem decode_gate {tsW : Nat} {payload : List Byte} (hlen : payload.length = tsb tsW) :
    decode tsW (0x01 :: payload) = (decodeTimestamp tsW payload).map .gate :=
  decode_header tsW .gate false payload nofun (by rw [hlen, Nat.add_comm]; rfl)

/-- A TICK frame with TSB payload bytes is its timestamp's command, if the timestamp is legal. -/
theorem decode_tick {tsW : Nat} {payload : List Byte} (hlen : payload.length = tsb tsW) :
    decode tsW (0x05 :: payload) = (decodeTimestamp tsW payload).map .tick :=
  decode_header tsW .tick false payload nofun (by rw [hlen, Nat.add_comm]; rfl)

/-- An RWRITE frame with 12 payload bytes is the ring write of the values they stand for. -/
theorem decode_rwrite {tsW : Nat} {payload : List Byte} {v : AxisValues} (hlen : payload.length = 12)
    (hv : axisOperand payload = some v) : decode tsW (0x02 :: payload) = .ok (.rwrite v) := by
  have hdec : decode tsW (0x02 :: payload) = decodeOperands tsW .rwrite false payload :=
    decode_header tsW .rwrite false payload nofun (by rw [hlen]; rfl)
  rw [hdec, decodeOperands, hv]

theorem decodeTimestamp_of_lt {tsW : Nat} {payload : List Byte} (h : leNat payload < 2 ^ tsW) :
    decodeTimestamp tsW payload = .ok (leNat payload) := if_pos h

theorem decodeTimestamp_of_le {tsW : Nat} {payload : List Byte} (h : 2 ^ tsW ≤ leNat payload) :
    decodeTimestamp tsW payload = .error .timestampRange := if_neg (Nat.not_lt.2 h)

/-! ### The statements -/

/-- Settles O6: both frames read their payload by `decodeTimestamp`, whose `leNat` is the sum of R74. -/
theorem timestampOperandIsTheLittleEndianSum : Obligations.TimestampOperandIsTheLittleEndianSum := by
  intro tsW payload hlen ts hts
  obtain rfl : ts = leNat payload := hts.trans (leNat_eq_sum payload).symm
  rw [decode_gate hlen, decode_tick hlen]
  constructor
  · intro hlt
    rw [decodeTimestamp_of_lt hlt]
    exact ⟨rfl, rfl⟩
  · intro hle i
    rw [decodeTimestamp_of_le hle]
    exact ⟨nofun, nofun⟩

/-- Settles O7: the values of a 12-byte payload are those of `axisOperand`, each the number of its two bytes. -/
theorem axisOperandsTakeTheirTwoBytes : Obligations.AxisOperandsTakeTheirTwoBytes := by
  intro tsW payload hlen
  obtain ⟨v, hv, hget⟩ := axisOperand_of_length hlen
  exact ⟨v, decode_rwrite hlen hv, fun a => by rw [hget a, le16_toNat]⟩

end Sys2Proof
end

section
/-! PROOFS. The gate evaluation's two outcomes (41_rategate.md R102). -/

namespace Sys2Proof.Machine

/-- A gate-pass stores the new timestamp (R102). -/
theorem gateEval_of_pass {w thr last ts : Nat} (hpass : ts ≠ last ∧ thr < diff w last ts) :
    gateEval w thr last ts = (true, ts) := by
  have hres : (gateEval w thr last ts).1 = true := (gateEval_fst w thr last ts).2 hpass
  exact Prod.ext hres (by rw [gateEval_snd, hres, if_pos rfl])

/-- Without a gate-pass the old timestamp stays (R102). -/
theorem gateEval_of_not_pass {w thr last ts : Nat} (hfail : ¬ (ts ≠ last ∧ thr < diff w last ts)) :
    gateEval w thr last ts = (false, last) := by
  have hres : (gateEval w thr last ts).1 = false :=
    Bool.eq_false_iff.2 (mt (gateEval_fst w thr last ts).1 hfail)
  exact Prod.ext hres (by rw [gateEval_snd, hres, if_neg Bool.false_ne_true])

/-- Settles O11: a new timestamp beyond the threshold is the gate-pass; the other two clauses each deny one half of it. -/
theorem gateEvaluationIsStrict : Obligations.GateEvaluationIsStrict := by
  intro tsW thr last ts
  refine ⟨fun heq => ?equal, fun hne hlt => gateEval_of_pass ⟨hne, hlt⟩, fun _ hle => ?atOrBelow⟩
  case equal => exact gateEval_of_not_pass fun hpass => hpass.1 heq
  case atOrBelow => exact gateEval_of_not_pass fun hpass => Nat.not_lt.2 hle hpass.2

end Sys2Proof.Machine
end

section
/-! PROOFS. Where each byte stands in the packet (42_samplering.md R122). -/

namespace Sys2Proof.Machine

/-! ### The two bytes of a value -/

/-- The low byte as a number (R7). -/
theorem lo_toNat (v : Word) : (lo v).toNat = v.toNat % 256 := by
  rw [lo, BitVec.extractLsb'_toNat, Nat.shiftRight_zero]

/-- The high byte as a number: no bit of the value lies above it (R7). -/
theorem hi_toNat (v : Word) : (hi v).toNat = v.toNat / 256 := by
  have hbyte : v.toNat / 2 ^ 8 < 2 ^ 8 := Nat.div_lt_of_lt_mul v.isLt
  rw [hi, BitVec.extractLsb'_toNat, Nat.shiftRight_eq_div_pow, Nat.mod_eq_of_lt hbyte]
  rfl

/-! ### Blocks of one length -/

/-- When every element gives a block of `n` bytes, byte `k` of the `i`-th block stands at `n * i + k`. -/
theorem getElem?_flatMap_block {α : Type} {f : α → List Byte} {n k : Nat} (hlen : ∀ a, (f a).length = n) (hk : k < n)
    {l : List α} {i : Nat} {a : α} (ha : l[i]? = some a) : (l.flatMap f)[n * i + k]? = (f a)[k]? := by
  induction l generalizing i with
  | nil => exact absurd ha (by simp)
  | cons x xs ih =>
    rw [List.flatMap_cons]
    cases i with
    | zero =>
      obtain rfl : x = a := Option.some.inj ha
      rw [Nat.mul_zero, Nat.zero_add, List.getElem?_append_left ((hlen x).symm ▸ hk)]
    | succ i =>
      have hskip : n * (i + 1) + k = (f x).length + (n * i + k) := by rw [hlen, Nat.mul_succ]; omega
      rw [hskip, List.getElem?_append_right (Nat.le_add_right _ _), Nat.add_sub_cancel_left]
      exact ih ha

/-! ### The packet -/

/-- Six axes, two bytes each (R122). -/
@[simp] theorem Ring.generationBytes_length (r : Ring) (g : Fin 3) : (r.generationBytes g).length = 12 := rfl

/-- Three generations, twelve bytes each (R122). -/
@[simp] theorem Ring.ser_length (r : Ring) : r.ser.length = 36 := rfl

/-- The packet is the blocks of the three generations, one after the other (R122). -/
theorem Ring.ser_eq_flatMap (r : Ring) : r.ser = ([0, 1, 2] : List (Fin 3)).flatMap r.generationBytes := by
  simp only [Ring.ser, List.flatMap_cons, List.flatMap_nil, List.append_nil, List.append_assoc]

/-- Byte `k` of generation `g` stands at `12g + k` (R122). -/
theorem Ring.ser_getElem? (r : Ring) (g : Fin 3) {k : Nat} (hk : k < 12) :
    r.ser[12 * g.val + k]? = (r.generationBytes g)[k]? := by
  have hg : ([0, 1, 2] : List (Fin 3))[g.val]? = some g := by fin_cases g <;> rfl
  rw [r.ser_eq_flatMap]
  exact getElem?_flatMap_block r.generationBytes_length hk hg

/-- Byte `b` of axis ORDER[j] stands at `2j + b` of its generation (R122). -/
theorem Ring.generationBytes_getElem? (r : Ring) (g : Fin 3) {j b : Nat} {a : Axis} (ha : packetOrder[j]? = some a)
    (hb : b < 2) : (r.generationBytes g)[2 * j + b]? = [lo (r.entry a g), hi (r.entry a g)][b]? :=
  getElem?_flatMap_block (f := fun a => [lo (r.entry a g), hi (r.entry a g)]) (fun _ => rfl) hb ha

/-- Byte `b` of axis ORDER[j] of generation `g` stands at `12g + 2j + b` (R122). -/
theorem Ring.ser_axis_getElem? (r : Ring) (g : Fin 3) {j b : Nat} {a : Axis} (ha : packetOrder[j]? = some a)
    (hb : b < 2) : r.ser[12 * g.val + 2 * j + b]? = [lo (r.entry a g), hi (r.entry a g)][b]? := by
  have hj : j < 6 := (List.getElem?_eq_some_iff.1 ha).1
  rw [Nat.add_assoc, r.ser_getElem? g (by omega), r.generationBytes_getElem? g ha hb]

/-- Settles O18: the bytes at `12g + 2j` and after it are the low and the high byte of the axis' entry. -/
theorem packetLayout : Obligations.PacketLayout := by
  intro r
  refine ⟨r.ser_length, fun g j a ha => ?_⟩
  have hlow := r.ser_axis_getElem? g ha (b := 0) (by decide)
  have hhigh := r.ser_axis_getElem? g ha (b := 1) (by decide)
  exact ⟨lo (r.entry a g), hi (r.entry a g), hlow, hhigh, lo_toNat _, hi_toNat _⟩

end Sys2Proof.Machine
end

section
/-! PROOFS. The ring write that ends a TICK (43_acquisition.md R156). -/

namespace Sys2Proof.Machine

/-! ### The ring and the cursor -/

/-- A ring that was written at CURSOR got one whole generation and lost no other entry (R121). -/
theorem wroteGeneration_of_ring_eq {v : AxisValues} {s t : State} (h : t.ring = s.ring.write s.cursor v) :
    WroteGeneration v s t := by
  intro a g
  rw [h]
  split
  · next hg => rw [hg, Ring.entry_write_self]
  · next hg => exact Ring.entry_write_ne _ v a hg

/-- A saturating increment is the advance of R120. -/
theorem advancedCursor_of_cursor_eq {s t : State} (h : t.cursor = satInc s.cursor) : AdvancedCursor s t := by
  rw [AdvancedCursor, h, satInc_val]

/-! ### The sequencer's port -/

/-- Writing `seq` at the port of this step keeps the rest of that port and all of every other (R8). -/
theorem State.setSeq_wentTo (s : State) (ph : Phase) (h : s.env.port < s.nports) :
    WentTo ph s (s.setSeq ph) ∧ (s.setSeq ph).tslAt s.env.port = s.tslAt s.env.port ∧
      (s.setSeq ph).rxbAt s.env.port = s.rxbAt s.env.port := by
  have hp : (s.setSeq ph).portAt s.env.port = { s.here with seq := ph } := s.portAt_setPort_self _ h
  refine ⟨⟨⟨s.setSeq_nports ph, fun q hq => s.portAt_setPort_ne _ hq⟩, ?_, ?_, ?_⟩, ?_, ?_⟩ <;>
    simp only [State.seqAt, State.responseAt, State.frameAt, State.tslAt, State.rxbAt, hp, State.here]

/-- Two updates that each keep every port but `p` keep them together. -/
theorem SamePortsBut.trans {p : Nat} {s t u : State} (hst : SamePortsBut p s t) (htu : SamePortsBut p t u) :
    SamePortsBut p s u :=
  ⟨htu.1.trans hst.1, fun q hq => (htu.2 q hq).trans (hst.2 q hq)⟩

/-- What ending a command in progress changes: the port of this step has its answer and an IDLE sequencer, and nothing
else of any port changed (R27). -/
theorem State.respond_setSeq_idle {s t : State} (ill res : Bool) (d : List Byte) (h : s.env.port < s.nports)
    (ht : t = (s.respond ill res d).setSeq .idle) :
    SamePortsBut s.env.port s t ∧ t.seqAt s.env.port = .idle ∧
      t.responseAt s.env.port = some (responseFrame ill res d) ∧ t.frameAt s.env.port = s.frameAt s.env.port ∧
      t.tslAt s.env.port = s.tslAt s.env.port ∧ t.rxbAt s.env.port = s.rxbAt s.env.port := by
  subst ht
  obtain ⟨hports, hresponse, hframe, -, htsl, hrxb⟩ := s.respond_answers ill res d h
  obtain ⟨⟨hports', hseq', hresponse', hframe'⟩, htsl', hrxb'⟩ :=
    (s.respond ill res d).setSeq_wentTo .idle (by rwa [State.respond_nports])
  exact ⟨hports.trans hports', hseq', hresponse'.trans hresponse, hframe'.trans hframe, htsl'.trans htsl,
    hrxb'.trans hrxb⟩

/-! ### U_T5 -/

/-- At T_WRITE a TICK's unit is U_T5 (R151). -/
theorem execTick_tWrite {s : State} (ts : Nat) (h : s.seqAt s.env.port = .tWrite) :
    exec (.tick ts) s = unitT5 s := by
  have hhere : s.here.seq = .tWrite := h
  simp only [exec, execTick, hhere]

/-- The gyro axes of a TICK are the first three byte pairs read, low byte first (R81). -/
theorem tickValues_gyro (r : XferBytes) :
    (tickValues r).gx.toNat = r.r0.toNat + 256 * r.r1.toNat ∧
      (tickValues r).gy.toNat = r.r2.toNat + 256 * r.r3.toNat ∧
      (tickValues r).gz.toNat = r.r4.toNat + 256 * r.r5.toNat :=
  ⟨le16_toNat r.r0 r.r1, le16_toNat r.r2 r.r3, le16_toNat r.r4 r.r5⟩

/-- The accel axes of a TICK are constants, whatever the transport read (R150). -/
theorem tickValues_accel (r : XferBytes) :
    (tickValues r).ax = 0xFEBC ∧ (tickValues r).ay = 0x00BA ∧ (tickValues r).az = 0x1019 :=
  show accelX = 0xFEBC ∧ accelY = 0x00BA ∧ accelZ = 0x1019 by decide

/-- Settles O27: U_T5 is a ring unit, so LOCK decides between the hold and its body; the body writes the ring at CURSOR,
then answers, then makes the sequencer IDLE. -/
theorem tickWritesGyroBytesAndAccelConstants : Obligations.TickWritesGyroBytesAndAccelConstants := by
  intro ts s hport hwrite
  have hunit : exec (.tick ts) s = unitT5 s := execTick_tWrite ts hwrite
  refine ⟨fun hheld => hunit.trans (ringUnit_held _ hheld), fun hfree => ?_⟩
  obtain ⟨hports, hidle, hresponse, hframe, htsl, hrxb⟩ :=
    State.respond_setSeq_idle (s := s.ringWrite (tickValues s.here.rxb)) false true [] hport rfl
  obtain ⟨hgx, hgy, hgz⟩ := tickValues_gyro s.here.rxb
  obtain ⟨hax, hay, haz⟩ := tickValues_accel s.here.rxb
  exact ⟨_, tickValues s.here.rxb, hunit.trans (unitT5_free hfree), wroteGeneration_of_ring_eq rfl,
    advancedCursor_of_cursor_eq rfl, hgx, hgy, hgz, hax, hay, haz, hports, hidle, hresponse, hframe, htsl, hrxb,
    rfl, rfl, rfl, ⟨rfl, rfl⟩, rfl⟩

end Sys2Proof.Machine
end

section
/-! PROOFS. The illegal frame (60_exceptions.md R181). -/

namespace Sys2Proof.Machine

/-! ### Updates of a channel -/

/-- Two updates that each change no element change none together. -/
theorem SameElements.trans {s t u : State} (hst : SameElements s t) (htu : SameElements t u) : SameElements s u := by
  obtain ⟨hts, hen, hcur, hring, hlock, howner, hsel, hn, hports⟩ := hst
  obtain ⟨hts', hen', hcur', hring', hlock', howner', hsel', hn', hports'⟩ := htu
  refine ⟨hts'.trans hts, hen'.trans hen, hcur'.trans hcur, hring'.trans hring, hlock'.trans hlock,
    howner'.trans howner, hsel'.trans hsel, hn'.trans hn, fun p => ?_⟩
  obtain ⟨hseq, htsl, hrxb⟩ := hports p
  obtain ⟨hseq', htsl', hrxb'⟩ := hports' p
  exact ⟨hseq'.trans hseq, htsl'.trans htsl, hrxb'.trans hrxb⟩

/-- The frames in flight are no element (R32). -/
theorem State.setChannelHere_sameElements (s : State) (c : Channel) :
    SameElements s (s.setHere { s.here with chan := c }) := by
  refine ⟨rfl, rfl, rfl, rfl, rfl, rfl, rfl, s.setHere_nports _, fun p => ?_⟩
  have hread : (s.setHere { s.here with chan := c }).portAt p = _ := s.portAt_setPort s.env.port p _
  simp only [State.seqAt, State.tslAt, State.rxbAt, hread]
  split
  · next hp => rw [hp.1]; exact ⟨rfl, rfl, rfl⟩
  · exact ⟨rfl, rfl, rfl⟩

/-- Accepting a frame changes only the frame shown at the port of this step. -/
theorem State.dropFrame_drops (s : State) (h : s.env.port < s.nports) :
    SamePortsBut s.env.port s s.dropFrame ∧ s.dropFrame.frameAt s.env.port = none ∧
      s.dropFrame.responseAt s.env.port = s.responseAt s.env.port := by
  have hp : s.dropFrame.portAt s.env.port = { s.here with chan := { s.here.chan with frame := none } } :=
    s.portAt_setPort_self _ h
  refine ⟨⟨s.dropFrame_nports, fun q hq => s.portAt_setPort_ne _ hq⟩, ?_, ?_⟩
  · rw [State.frameAt, hp]
  · rw [State.responseAt, hp]; rfl

/-- What an answer and the drop of its frame change: the response and the frame at the port of this step, and no element
(R27, R32). -/
theorem State.respond_dropFrame {s t : State} (ill res : Bool) (d : List Byte) (h : s.env.port < s.nports)
    (ht : t = (s.respond ill res d).dropFrame) :
    SameElements s t ∧ t.responseAt s.env.port = some (responseFrame ill res d) ∧ t.frameAt s.env.port = none ∧
      SamePortsBut s.env.port s t := by
  subst ht
  have helements : SameElements s (s.respond ill res d).dropFrame :=
    (s.setChannelHere_sameElements _).trans ((s.respond ill res d).setChannelHere_sameElements _)
  obtain ⟨hports, hresponse, -⟩ := s.respond_answers ill res d h
  obtain ⟨hports', hframe, hresponse'⟩ := (s.respond ill res d).dropFrame_drops (by rwa [State.respond_nports])
  exact ⟨helements, hresponse'.trans hresponse, hframe, hports.trans hports'⟩

/-! ### The turn that answers it -/

/-- The turn of a port that exists is its sequencer's (R59). -/
theorem step_turn {s : State} {p : Nat} {a : Option TxAnswer} {rest : List Input}
    (hin : s.env.inputs = { reset := false, move := .run p a } :: rest) (hp : p < s.nports) :
    step s = runSequencer ((s.withInputs rest).turn p a) := by
  rw [step, nextStep, hin]
  exact if_pos hp

/-- An answer makes the frame accepted: it is shown no longer (R27). -/
theorem acceptAfter_respond {s : State} (ill res : Bool) (d : List Byte) (h : s.env.port < s.nports) :
    acceptAfter (.next (s.respond ill res d)) = .next (s.respond ill res d).dropFrame := by
  obtain ⟨-, hresponse, -⟩ := s.respond_answers ill res d h
  have hhere : (s.respond ill res d).here.chan.response = some (responseFrame ill res d) := hresponse
  have haccepted : (s.respond ill res d).accepted = true := by rw [State.accepted, hhere]; rfl
  rw [acceptAfter, if_pos haccepted]

/-- An idle port with no response standing answers an illegal frame and takes it (R27, R181). -/
theorem runSequencer_illegal {s : State} {f : Frame} {e : DecodeError} (hport : s.env.port < s.nports)
    (hidle : s.here.seq = .idle) (hresponse : s.here.chan.response = none) (hframe : s.here.chan.frame = some f)
    (herror : decode s.env.params.tsW f = .error e) :
    runSequencer s = .next (s.respond true false []).dropFrame := by
  simp only [runSequencer, hidle, runIdle, hresponse, hframe, runFrame, herror]
  exact acceptAfter_respond true false [] hport

/-- The ILLEGAL answer is the one byte 0x01 (R79, R181). -/
theorem responseFrame_illegal : responseFrame true false [] = [0x01] := by
  obtain ⟨-, -, hstatus⟩ := statusByte_values
  rw [responseFrame, hstatus]

/-- Settles O35: the turn is an answer and then the drop of the frame, and each of the two writes the channel of the
port of this step only. -/
theorem illegalFrameIsAnsweredAndChangesNothing : Obligations.IllegalFrameIsAnsweredAndChangesNothing := by
  intro s p a rest f e hin hp hidle hresponse hframe herror
  have hturn : step s = .next (((s.withInputs rest).turn p a).respond true false []).dropFrame :=
    (step_turn hin hp).trans (runSequencer_illegal hp hidle hresponse hframe herror)
  obtain ⟨helements, hanswer, hdropped, hports⟩ :=
    State.respond_dropFrame (s := (s.withInputs rest).turn p a) true false [] hp rfl
  rw [responseFrame_illegal] at hanswer
  exact ⟨_, hturn, helements, hanswer, hdropped, hports, rfl, rfl⟩

end Sys2Proof.Machine
end

section
/-! PROOFS. The encoding as a whole: frames, headers, streams and assembled lines (30_encoding.md R70 to R84). -/

namespace Sys2Proof

open Sys2Proof.Machine

/-! ### Payloads back from their operands -/

/-- A byte list is the little-endian bytes of the number it stands for (R53). -/
theorem leBytes_leNat (bs : List Byte) : leBytes bs.length (leNat bs) = bs := by
  induction bs with
  | nil => rfl
  | cons b bs ih =>
    have hbyte : BitVec.ofNat 8 (b.toNat + 256 * leNat bs) = b := by
      apply BitVec.eq_of_toNat_eq
      rw [BitVec.toNat_ofNat]
      omega
    have hrest : (b.toNat + 256 * leNat bs) / 256 = leNat bs := by omega
    simp only [List.length_cons, leBytes, leNat, hbyte, hrest, ih]

/-- Zero bytes stand for zero. -/
theorem leNat_replicate_zero (n : Nat) : leNat (List.replicate n 0) = 0 := by
  induction n with
  | zero => rfl
  | succ n ih => rw [List.replicate_succ, leNat, ih]; rfl

/-- Axis values keep every byte of the payload they were read from (R75). -/
theorem axisPayload_of_axisOperand {payload : List Byte} {v : AxisValues} (h : axisOperand payload = some v) :
    axisPayload v = payload := by
  unfold axisOperand at h
  split at h
  · cases h; simp only [axisPayload, lo_le16, hi_le16]
  · cases h

/-! ### What a legal frame is -/

/-- The decoder accepts exactly the frames of a header, with E for SETEN only, and a payload of its format's length whose
operands decode (R76). -/
theorem decode_eq_ok_iff {tsW : Nat} {f : Frame} {i : Instr} :
    decode tsW f = .ok i ↔ ∃ op e payload, f = header op e :: payload ∧ (e = true → op = .seten) ∧
      payload.length + 1 = frameLength tsW op ∧ decodeOperands tsW op e payload = .ok i := by
  constructor
  · intro h
    unfold decode at h
    split at h
    · cases h
    · next hd payload =>
      split_ifs at h with hrsv
      split at h
      · cases h
      · next op hop =>
        split_ifs at h with hbit hlen
        refine ⟨op, headerE hd, payload, ?_, fun he => ?_, not_not.1 hlen, h⟩
        · rw [header_of_fields hd op (not_not.1 hrsv) hop]
        · exact not_not.1 fun hne => hbit ⟨he, hne⟩
  · rintro ⟨op, e, payload, rfl, he, hlen, hops⟩
    rw [decode_header tsW op e payload he hlen, hops]

theorem decodeTimestamp_eq_ok_iff {tsW ts : Nat} {payload : List Byte} :
    decodeTimestamp tsW payload = .ok ts ↔ leNat payload < 2 ^ tsW ∧ leNat payload = ts := by
  unfold decodeTimestamp
  split_ifs with h <;> simp [h]

/-- Of a payload with its format's length only a timestamp can be illegal (R74, R75). -/
theorem decodeOperands_legal_iff {tsW : Nat} {op : Opcode} {e : Bool} {payload : List Byte}
    (hlen : payload.length + 1 = frameLength tsW op) :
    (∃ i, decodeOperands tsW op e payload = .ok i) ↔ (op = .gate ∨ op = .tick → leNat payload < 2 ^ tsW) := by
  cases op with
  | gate | tick =>
    simp only [decodeOperands, decodeTimestamp]
    split_ifs with hlt <;> simp [hlt, Except.map]
  | rwrite =>
    obtain ⟨v, hv, -⟩ := axisOperand_of_length (payload := payload) (Nat.succ.inj hlen)
    simp [decodeOperands, hv]
  | rdpkt | rstcur | seten => simp [decodeOperands]

/-- What the operands decode to, with E for SETEN only, has this opcode and this payload, and is well-formed. -/
theorem encode_of_decodeOperands {tsW : Nat} {op : Opcode} {e : Bool} {payload : List Byte} {i : Instr}
    (he : e = true → op = .seten) (hlen : payload.length + 1 = frameLength tsW op)
    (h : decodeOperands tsW op e payload = .ok i) :
    encode tsW i = header op e :: payload ∧ i.wellFormed tsW = true := by
  have hnoBit : op ≠ .seten → e = false := fun hop => Bool.eq_false_iff.2 (mt he hop)
  have hstamp : payload.length + 1 = 1 + tsb tsW → leBytes (tsb tsW) (leNat payload) = payload := fun hl => by
    rw [show tsb tsW = payload.length by omega, leBytes_leNat]
  have hempty : payload.length + 1 = 1 → payload = [] := fun hl => List.length_eq_zero_iff.1 (Nat.succ.inj hl)
  cases op with
  | gate | tick =>
    obtain rfl := hnoBit nofun
    simp only [decodeOperands, decodeTimestamp] at h
    split_ifs at h with hlt
    · cases h; simp only [encode, hstamp hlen, Instr.wellFormed, hlt, decide_true, and_self]
    · cases h
  | rwrite =>
    obtain rfl := hnoBit nofun
    simp only [decodeOperands] at h
    split at h
    · next v hv => cases h; exact ⟨by rw [encode, axisPayload_of_axisOperand hv], rfl⟩
    · cases h
  | rdpkt | rstcur =>
    obtain rfl := hnoBit nofun
    obtain rfl := hempty hlen
    cases h; exact ⟨rfl, rfl⟩
  | seten =>
    obtain rfl := hempty hlen
    cases h; exact ⟨rfl, rfl⟩

/-- The frame of a well-formed command is a header, with E for SETEN only, and a payload whose operands decode to it. -/
theorem decodeOperands_of_encode {tsW : Nat} {i : Instr} (hwf : i.wellFormed tsW = true) :
    ∃ e payload, encode tsW i = header i.opcode e :: payload ∧ (e = true → i.opcode = .seten) ∧
      payload.length + 1 = frameLength tsW i.opcode ∧ decodeOperands tsW i.opcode e payload = .ok i := by
  have hstamp : ∀ {ts}, ts < 2 ^ tsW → decodeTimestamp tsW (leBytes (tsb tsW) ts) = .ok ts := fun {ts} hts => by
    have hfits : leNat (leBytes (tsb tsW) ts) = ts :=
      leNat_leBytes _ _ (hts.trans_le (Nat.pow_le_pow_right (by decide) (tsb_covers tsW)))
    rw [decodeTimestamp_eq_ok_iff, hfits]
    exact ⟨hts, rfl⟩
  cases i with
  | gate ts | tick ts =>
    have hts : ts < 2 ^ tsW := of_decide_eq_true hwf
    refine ⟨false, _, rfl, nofun, by simp [Instr.opcode, frameLength, Nat.add_comm], ?_⟩
    simp only [decodeOperands, Instr.opcode, hstamp hts]; rfl
  | rwrite v =>
    refine ⟨false, _, rfl, nofun, rfl, ?_⟩
    simp only [decodeOperands, Instr.opcode, axisOperand_axisPayload]
  | rdpkt | rstcur => exact ⟨false, [], rfl, nofun, rfl, rfl⟩
  | seten e => exact ⟨e, [], rfl, fun _ => rfl, rfl, rfl⟩

/-- Settles O1: the frame of a well-formed command passes the five checks of its header, and its operands decode to it. -/
theorem decodeOfEncodeIsTheCommand : Obligations.DecodeOfEncodeIsTheCommand := by
  intro tsW i hwf
  obtain ⟨e, payload, hframe, he, hlen, hops⟩ := decodeOperands_of_encode hwf
  exact decode_eq_ok_iff.2 ⟨i.opcode, e, payload, hframe, he, hlen, hops⟩

/-- Settles O2: a frame that decodes is a header and a payload, and both come back from the operands. -/
theorem encodeOfDecodeIsTheFrame : Obligations.EncodeOfDecodeIsTheFrame := by
  intro tsW f i h
  obtain ⟨op, e, payload, rfl, he, hlen, hops⟩ := decode_eq_ok_iff.1 h
  exact encode_of_decodeOperands he hlen hops

/-! ### The header's fields as numbers -/

/-- A frame is legal exactly when its header is one of a legal opcode and its payload is legal for it (R76). -/
theorem decode_legal_iff {tsW : Nat} {f : Frame} :
    (∃ i, decode tsW f = .ok i) ↔ ∃ op e payload, f = header op e :: payload ∧ (e = true → op = .seten) ∧
      payload.length + 1 = frameLength tsW op ∧ (op = .gate ∨ op = .tick → leNat payload < 2 ^ tsW) := by
  constructor
  · rintro ⟨i, h⟩
    obtain ⟨op, e, payload, hf, he, hlen, hops⟩ := decode_eq_ok_iff.1 h
    exact ⟨op, e, payload, hf, he, hlen, (decodeOperands_legal_iff hlen).1 ⟨i, hops⟩⟩
  · rintro ⟨op, e, payload, hf, he, hlen, hts⟩
    obtain ⟨i, hops⟩ := (decodeOperands_legal_iff (e := e) hlen).2 hts
    exact ⟨i, decode_eq_ok_iff.2 ⟨op, e, payload, hf, he, hlen, hops⟩⟩

/-- A header as a number: OP in the low four bits, E above it (R71). -/
theorem header_toNat (op : Opcode) (e : Bool) : (header op e).toNat = 16 * e.toNat + (opcodeBits op).toNat := by
  cases op <;> cases e <;> rfl

/-- A byte below 32 whose low four bits are an opcode is that opcode's header (R71, R72). -/
theorem eq_header_of_toNat {h : Byte} (op : Opcode) (hrsv : h.toNat / 32 = 0)
    (hop : h.toNat % 16 = (opcodeBits op).toNat) : h = header op (decide (h.toNat / 16 % 2 = 1)) := by
  apply BitVec.eq_of_toNat_eq
  rw [header_toNat]
  by_cases hbit : h.toNat / 16 % 2 = 1 <;> simp [hbit] <;> omega

/-- The opcodes are the numbers 1 to 6 (R72). -/
theorem exists_opcodeBits {n : Nat} (h : 1 ≤ n ∧ n ≤ 6) : ∃ op, (opcodeBits op).toNat = n := by
  obtain ⟨hlow, hhigh⟩ := h
  interval_cases n
  exacts [⟨.gate, rfl⟩, ⟨.rwrite, rfl⟩, ⟨.rdpkt, rfl⟩, ⟨.rstcur, rfl⟩, ⟨.tick, rfl⟩, ⟨.seten, rfl⟩]

/-- The lengths of the formats, by the number of the opcode (R73). -/
theorem frameLength_eq (tsW : Nat) (op : Opcode) :
    frameLength tsW op =
      if (opcodeBits op).toNat = 1 ∨ (opcodeBits op).toNat = 5 then 1 + (tsW + 7) / 8
      else if (opcodeBits op).toNat = 2 then 13 else 1 := by
  cases op <;> rfl

/-- The opcodes with a timestamp are 1 and 5 (R72, R73). -/
theorem opcodeBits_stamped (op : Opcode) :
    (opcodeBits op).toNat = 1 ∨ (opcodeBits op).toNat = 5 ↔ op = .gate ∨ op = .tick := by
  cases op <;> decide

/-- E may be set under opcode 6 only (R71, R76 check 4). -/
theorem opcodeBits_seten (op : Opcode) : (opcodeBits op).toNat = 6 ↔ op = .seten := by
  cases op <;> decide

/-- Settles O3: a legal frame's header is that of an opcode, whose number, E bit and length are those of the six checks. -/
theorem frameIsLegalWhenTheSixChecksHold : Obligations.FrameIsLegalWhenTheSixChecksHold := by
  intro tsW f
  rw [decode_legal_iff]
  constructor
  · rintro ⟨op, e, payload, rfl, he, hlen, hts⟩
    have hbits : (opcodeBits op).toNat < 16 := (opcodeBits op).isLt
    have hrange : 1 ≤ (opcodeBits op).toNat ∧ (opcodeBits op).toNat ≤ 6 := by cases op <;> decide
    have hcode : (header op e).toNat % 16 = (opcodeBits op).toNat := by rw [header_toNat]; omega
    have hbit : e.toNat ≤ 1 := e.toNat_le
    refine ⟨header op e, payload, rfl, by rw [header_toNat]; omega, by rwa [hcode], ?_, ?_, ?_⟩
    · rw [hcode, opcodeBits_seten, header_toNat]
      cases e with
      | false => left; simp only [Bool.toNat_false]; omega
      | true => exact Or.inr (he rfl)
    · rw [hcode, ← frameLength_eq, ← hlen, List.length_cons]
    · rw [hcode, opcodeBits_stamped, ← leNat_eq_sum]
      exact hts
  · rintro ⟨h, payload, rfl, hrsv, hrange, hbit, hlen, hts⟩
    obtain ⟨op, hop⟩ := exists_opcodeBits hrange
    rw [← hop, opcodeBits_seten] at hbit
    rw [← hop, ← frameLength_eq, List.length_cons] at hlen
    rw [← hop, opcodeBits_stamped, ← leNat_eq_sum] at hts
    refine ⟨op, _, payload, by rw [← eq_header_of_toNat op hrsv hop.symm], fun he => ?_, hlen, hts⟩
    have hset : h.toNat / 16 % 2 = 1 := of_decide_eq_true he
    exact hbit.resolve_left (by omega)

/-- The headers with E for SETEN only are the seven of R77. -/
theorem legal_header_iff (h : Byte) :
    (∃ op e, h = header op e ∧ (e = true → op = .seten)) ↔ h ∈ [0x01, 0x02, 0x03, 0x04, 0x05, 0x06, (0x16 : Byte)] := by
  constructor
  · rintro ⟨op, e, rfl, he⟩
    cases e with
    | false => cases op <;> decide
    | true => rw [he rfl]; decide
  · intro hmem
    simp only [List.mem_cons, List.not_mem_nil, or_false] at hmem
    rcases hmem with rfl | rfl | rfl | rfl | rfl | rfl | rfl
    exacts [⟨.gate, false, rfl, nofun⟩, ⟨.rwrite, false, rfl, nofun⟩, ⟨.rdpkt, false, rfl, nofun⟩,
      ⟨.rstcur, false, rfl, nofun⟩, ⟨.tick, false, rfl, nofun⟩, ⟨.seten, false, rfl, nofun⟩,
      ⟨.seten, true, rfl, fun _ => rfl⟩]

/-- Settles O4: each of the seven headers is legal with zero bytes for its payload. -/
theorem exactlySevenHeadersAreLegal : Obligations.ExactlySevenHeadersAreLegal := by
  intro tsW h
  rw [← legal_header_iff]
  constructor
  · rintro ⟨payload, hdec⟩
    obtain ⟨op, e, _, hframe, he, -⟩ := decode_legal_iff.1 hdec
    exact ⟨op, e, (List.cons.inj hframe).1, he⟩
  · rintro ⟨op, e, rfl, he⟩
    have hpos : 1 ≤ frameLength tsW op := by rw [frameLength_eq]; split_ifs <;> omega
    refine ⟨List.replicate (frameLength tsW op - 1) 0, decode_legal_iff.2 ⟨op, e, _, rfl, he, ?_, fun _ => ?_⟩⟩
    · rw [List.length_replicate]; omega
    · rw [leNat_replicate_zero]; exact Nat.two_pow_pos tsW

/-- Settles O5: each of the seven frames runs through the decoder. -/
theorem specExampleFramesDecode : Obligations.SpecExampleFramesDecode :=
  ⟨rfl, rfl, rfl, rfl, rfl, rfl, rfl⟩

/-! ### Streams -/

/-- Every command's frame has the length that its header announces (R73). -/
theorem encodedFormat (i : Instr) : Laws.EncodedFormat.Statement i := by
  cases i with
  | gate ts => exact Laws.EncodedFormat.gate ts
  | rwrite v => exact Laws.EncodedFormat.rwrite v
  | rdpkt => exact Laws.EncodedFormat.rdpkt
  | rstcur => exact Laws.EncodedFormat.rstcur
  | tick ts => exact Laws.EncodedFormat.tick ts
  | seten e => exact Laws.EncodedFormat.seten e

/-- Settles O8: the header alone tells the length of the frame. -/
theorem streamDecoderTakesOneFrame : Obligations.StreamDecoderTakesOneFrame := by
  intro tsW i rest _
  obtain ⟨e, payload, hframe, hlen⟩ := encodedFormat i tsW
  have htake : streamLength tsW (header i.opcode e) = (header i.opcode e :: payload).length := by
    rw [streamLength, opcodeOf_header, List.length_cons, hlen]
  rw [hframe, List.cons_append, takeFrame, htake, ← List.cons_append, List.take_left, List.drop_left]

/-! ### Assembled lines -/

/-- The assembler emits a frame only for a mnemonic whose operands make a command, and the frame is the command's (R82). -/
theorem assembleLine_eq_some {tsW : Nat} {line : List Char} {f : Frame} (h : assembleLine tsW line = .ok (some f)) :
    ∃ m operands i, mnemonicOf ((trimBlanks (stripComment line)).takeWhile fun c => !isBlank c) = some m ∧
      parseOperands ((trimBlanks (stripComment line)).dropWhile fun c => !isBlank c) = some operands ∧
      asmCommand tsW m operands = .ok i ∧ f = encode tsW i := by
  unfold assembleLine at h
  split at h
  · cases h
  · next c cs hline =>
    rw [hline]
    split at h
    · cases h
    · cases h
    · next m operands hm hops =>
      cases hi : asmCommand tsW m operands with
      | error e => rw [hi] at h; cases h
      | ok i => rw [hi] at h; cases h; exact ⟨m, operands, i, hm, hops, hi, rfl⟩

/-- The assembler checks every operand's range, so its commands are well-formed (R82). -/
theorem asmCommand_wellFormed {tsW : Nat} {m : Mnemonic} {operands : List Nat} {i : Instr}
    (h : asmCommand tsW m operands = .ok i) : i.wellFormed tsW = true := by
  unfold asmCommand at h
  split at h
  case h_1 ts | h_5 ts =>
    simp only [asmTimestamp] at h
    split_ifs at h with hts
    · cases h; exact decide_eq_true hts
    · cases h
  case h_2 =>
    simp only [asmAxisValues] at h
    split_ifs at h <;> cases h
    rfl
  case h_6 e =>
    unfold asmEnable at h
    split at h <;> cases h <;> rfl
  case h_9 => cases h
  all_goals cases h; rfl

/-- ENABLE and DISABLE are SETEN 1 and SETEN 0 (R83). -/
theorem asmCommand_pseudo {tsW : Nat} {m : Mnemonic} {operands : List Nat} {i : Instr}
    (h : asmCommand tsW m operands = .ok i) :
    (m = .enable → i = .seten true) ∧ (m = .disable → i = .seten false) := by
  constructor
  · rintro rfl
    cases operands with
    | nil => cases h; rfl
    | cons n ns => cases h
  · rintro rfl
    cases operands with
    | nil => cases h; rfl
    | cons n ns => cases h

/-- Settles O9: an assembled line is the frame of a well-formed command, and such a frame decodes to its command. -/
theorem assembledFramesDecode : Obligations.AssembledFramesDecode := by
  intro tsW line f h
  obtain ⟨m, operands, i, hm, hops, hi, rfl⟩ := assembleLine_eq_some h
  obtain ⟨henable, hdisable⟩ := asmCommand_pseudo hi
  refine ⟨m, operands, i, hm, hops, hi, decodeOfEncodeIsTheCommand tsW i (asmCommand_wellFormed hi), fun he => ?_,
    fun hd => ?_⟩
  · rw [henable he]; rfl
  · rw [hdisable hd]; rfl

end Sys2Proof
end

section
/-! PROOFS. The rate gate (41_rategate.md): the forward difference, the threshold's extremes, GATE. -/

namespace Sys2Proof.Machine

/-! ### The forward difference -/

/-- Settles O10: below the stored timestamp the sum stays under the modulus, so one count is missing; otherwise the
modulus cancels. -/
theorem forwardDifferenceFallsOneShortAcrossTheWrap : Obligations.ForwardDifferenceFallsOneShortAcrossTheWrap := by
  intro tsW last ts hlast hts
  have hpos : 0 < 2 ^ tsW := Nat.two_pow_pos tsW
  unfold diff maxCounter
  constructor
  · intro hlt
    rw [if_pos hlt, Nat.mod_eq_of_lt (by omega)]
    omega
  · intro hle
    have hshift : ts + 2 ^ tsW - last = ts - last + 2 ^ tsW := by omega
    rw [if_neg (by omega), hshift, Nat.add_mod_right, Nat.mod_eq_of_lt (by omega)]
    omega

/-- Settles O12: across the wrap the difference is at most MAX_COUNTER - 1, and elsewhere it is `ts - last`. -/
theorem thresholdExtremes : Obligations.ThresholdExtremes := by
  intro tsW thr last ts hw hlast hts
  obtain ⟨hbelow, habove⟩ := forwardDifferenceFallsOneShortAcrossTheWrap tsW last ts hlast hts
  have htwo : 2 ≤ 2 ^ tsW := Nat.le_pow hw
  rw [← Bool.not_eq_true, gateEval_fst]
  rcases Nat.lt_or_ge ts last with hlt | hge
  · obtain ⟨hdiff, -, -⟩ := hbelow hlt
    omega
  · obtain ⟨hdiff, -, -⟩ := habove hge
    omega

/-! ### GATE -/

/-- On a gate-pass GateEval of LAST_TS gives the new timestamp (R102). -/
theorem State.gate_of_passes {s : State} {ts : Nat} (h : GatePasses s.env.params s.lastTs ts) :
    s.gate ts = (true, ts) :=
  gateEval_of_pass h

/-- Without a gate-pass GateEval gives LAST_TS back (R102). -/
theorem State.gate_of_not_passes {s : State} {ts : Nat} (h : ¬ GatePasses s.env.params s.lastTs ts) :
    s.gate ts = (false, s.lastTs) :=
  gateEval_of_not_pass h

/-- An equal timestamp never passes (R102). -/
theorem not_gatePasses_self (P : Params) (ts : Nat) : ¬ GatePasses P ts ts := fun h => h.1 rfl

/-- GATE on a gate-pass (R100). -/
theorem execGate_of_passes {s : State} {ts : Nat} (h : GatePasses s.env.params s.lastTs ts) :
    exec (.gate ts) s = .next ((s.setLastTs ts).respond false true []) := by
  rw [exec, execGate, State.gate_of_passes h]

/-- GATE without a gate-pass (R100). -/
theorem execGate_of_not_passes {s : State} {ts : Nat} (h : ¬ GatePasses s.env.params s.lastTs ts) :
    exec (.gate ts) s = .next (s.respond false false []) := by
  rw [exec, execGate, State.gate_of_not_passes h]
  rfl

/-- An answer without ILL and RES is 0x00 and its data (R79). -/
theorem responseFrame_ok (d : List Byte) : responseFrame false false d = 0x00 :: d := by
  rw [responseFrame, statusByte_values.1]

/-- An answer with RES is 0x02 (R79). -/
theorem responseFrame_res : responseFrame false true [] = [0x02] := by
  obtain ⟨-, hstatus, -⟩ := statusByte_values
  rw [responseFrame, hstatus]

/-- Settles O13: GATE writes LAST_TS on a pass, and answers; an answer writes the response of its port only. -/
theorem gateCommandWritesOnlyLastTimestamp : Obligations.GateCommandWritesOnlyLastTimestamp := by
  intro ts s hport
  by_cases hpass : GatePasses s.env.params s.lastTs ts
  · have hanswer := (s.setLastTs ts).respond_answers false true [] hport
    rw [responseFrame_res] at hanswer
    simp only [if_pos hpass]
    exact ⟨_, execGate_of_passes hpass, rfl, hanswer, rfl, rfl, rfl, rfl, ⟨rfl, rfl⟩, rfl⟩
  · have hanswer := s.respond_answers false false [] hport
    rw [responseFrame_ok] at hanswer
    simp only [if_neg hpass]
    exact ⟨_, execGate_of_not_passes hpass, rfl, hanswer, rfl, rfl, rfl, rfl, ⟨rfl, rfl⟩, rfl⟩

/-- After GATE ts the timestamp ts does not pass: it is LAST_TS itself, or it did not pass before (R102). -/
theorem not_gatePasses_after_gate {ts : Nat} {s t : State} (h : exec (.gate ts) s = .next t) :
    ¬ GatePasses t.env.params t.lastTs ts := by
  by_cases hpass : GatePasses s.env.params s.lastTs ts
  · rw [execGate_of_passes hpass] at h
    cases h
    exact not_gatePasses_self _ ts
  · rw [execGate_of_not_passes hpass] at h
    cases h
    exact hpass

/-- Settles O14: the timestamp cannot pass a second time, and GATE without a pass is an answer. -/
theorem repeatedGateHasNoEffect : Obligations.RepeatedGateHasNoEffect := by
  intro ts s t hport h
  obtain ⟨hhere, hn, -⟩ := exec_other_ports h
  obtain ⟨-, hresponse, -⟩ := t.respond_answers false false [] (by rwa [hhere, hn])
  rw [responseFrame_ok, hhere] at hresponse
  exact ⟨_, execGate_of_not_passes (not_gatePasses_after_gate h), t.setChannelHere_sameElements _, hresponse⟩

end Sys2Proof.Machine
end

section
/-! PROOFS. The sample ring's commands (42_samplering.md) and SETEN (43_acquisition.md R157). -/

namespace Sys2Proof.Machine

/-! ### The ring units and SETEN -/

/-- Setting LOCK to what it is changes nothing. -/
theorem State.setLock_self {s : State} {b : Bool} (h : s.lock = b) : s.setLock b = s := by
  subst h; rfl

/-- RWRITE at LOCK = 1 holds (R60). -/
theorem execRwrite_held {s : State} (v : AxisValues) (h : s.lock = true) : exec (.rwrite v) s = .next s :=
  ringUnit_held (fun s => (s.ringWrite v).respond false false []) h

/-- RDPKT at LOCK = 1 holds (R60). -/
theorem execRdpkt_held {s : State} (h : s.lock = true) : exec .rdpkt s = .next s :=
  ringUnit_held (fun s => s.respond false false s.ring.ser) h

/-- RSTCUR at LOCK = 1 holds (R60). -/
theorem execRstcur_held {s : State} (h : s.lock = true) : exec .rstcur s = .next s :=
  ringUnit_held (fun s => (s.setCursor 0).respond false false []) h

/-- Settles O15: RWRITE is a ring unit whose body writes the ring at CURSOR and answers. -/
theorem ringWriteCommandWritesOneGeneration : Obligations.RingWriteCommandWritesOneGeneration := by
  intro v s hport
  refine ⟨fun hheld => execRwrite_held v hheld, fun hfree => ?_⟩
  have hanswer := (s.ringWrite v).respond_answers false false [] hport
  rw [responseFrame_ok] at hanswer
  exact ⟨_, execRwrite_free v hfree, wroteGeneration_of_ring_eq rfl, advancedCursor_of_cursor_eq rfl, hanswer,
    rfl, rfl, rfl, ⟨rfl, rfl⟩, rfl⟩

/-- RDPKT at LOCK = 0 is an answer and nothing else (R123). -/
theorem execRdpkt_answers {s : State} (h : s.lock = false) :
    exec .rdpkt s = .next (s.respond false false s.ring.ser) := by
  have hlock : (s.respond false false s.ring.ser).lock = false := h
  rw [execRdpkt_free h, State.setLock_self hlock]

/-- RWRITE at LOCK = 0 is a ring write and an answer (R121). -/
theorem execRwrite_answers {s : State} (v : AxisValues) (h : s.lock = false) :
    exec (.rwrite v) s = .next ((s.ringWrite v).respond false false []) := by
  have hlock : ((s.ringWrite v).respond false false []).lock = false := h
  rw [execRwrite_free v h, State.setLock_self hlock]

/-- RSTCUR at LOCK = 0 clears CURSOR and answers (R124). -/
theorem execRstcur_answers {s : State} (h : s.lock = false) :
    exec .rstcur s = .next ((s.setCursor 0).respond false false []) := by
  have hlock : ((s.setCursor 0).respond false false []).lock = false := h
  rw [execRstcur_free h, State.setLock_self hlock]

/-- Settles O16: RDPKT is a ring unit whose body answers the packet. -/
theorem readPacketAnswersOneSnapshot : Obligations.ReadPacketAnswersOneSnapshot := by
  intro s hport
  refine ⟨fun hheld => execRdpkt_held hheld, fun hfree => ?_⟩
  have hanswer := s.respond_answers false false s.ring.ser hport
  rw [responseFrame_ok] at hanswer
  exact ⟨_, execRdpkt_answers hfree, hanswer, s.setChannelHere_sameElements _, rfl⟩

/-- Settles O17: RSTCUR is a ring unit whose body clears CURSOR and answers. -/
theorem resetCursorKeepsTheRing : Obligations.ResetCursorKeepsTheRing := by
  intro s hport
  refine ⟨fun hheld => execRstcur_held hheld, fun hfree => ?_⟩
  have hanswer := (s.setCursor 0).respond_answers false false [] hport
  rw [responseFrame_ok] at hanswer
  exact ⟨_, execRstcur_free hfree, rfl, hanswer, rfl, rfl, rfl, rfl, ⟨rfl, rfl⟩, rfl⟩

/-- Settles O22: SETEN writes ENABLED and answers. -/
theorem setEnableWritesOnlyEnabled : Obligations.SetEnableWritesOnlyEnabled := by
  intro e s hport
  have hanswer := (s.setEnabled e).respond_answers false false [] hport
  rw [responseFrame_ok] at hanswer
  exact ⟨_, rfl, rfl, hanswer, rfl, rfl, rfl, rfl, ⟨rfl, rfl⟩, rfl⟩

/-! ### The packet -/

/-- Every axis has its place in the packet (R122). -/
theorem mem_packetOrder (a : Axis) : a ∈ packetOrder := by
  cases a <;> decide

/-- Settles O19: the packet holds both bytes of every entry, and the two bytes give the entry back. -/
theorem packetDeterminesTheRing : Obligations.PacketDeterminesTheRing := by
  intro r q hser
  refine Ring.ext_entry fun a g => ?_
  obtain ⟨j, ha⟩ := List.mem_iff_getElem?.1 (mem_packetOrder a)
  have hbytes : ∀ b < 2, [lo (r.entry a g), hi (r.entry a g)][b]? = [lo (q.entry a g), hi (q.entry a g)][b]? :=
    fun b hb => by rw [← r.ser_axis_getElem? g ha hb, ← q.ser_axis_getElem? g ha hb, hser]
  have hlow : lo (r.entry a g) = lo (q.entry a g) := Option.some.inj (hbytes 0 (by decide))
  have hhigh : hi (r.entry a g) = hi (q.entry a g) := Option.some.inj (hbytes 1 (by decide))
  rw [← le16_lo_hi (r.entry a g), hlow, hhigh, le16_lo_hi]

/-! ### Ring writes one after the other -/

/-- RING and CURSOR after the ring writes of these values, in order (R120, R121). -/
def writeAll : List AxisValues → Ring → Fin 3 → Ring × Fin 3
  | [], r, c => (r, c)
  | v :: vs, r, c => writeAll vs (r.write c v) (satInc c)

/-- Units of any commands but RSTCUR complete at LOCK = 0 and leave RING and CURSOR as their ring writes do. -/
theorem execUnits_writeAll (us : List PortUnit) {s : State} (hl : s.lock = false)
    (hus : ∀ u ∈ us, u.command ≠ .rstcur) :
    ∃ t, execUnits us s = .next t ∧ (t.ring, t.cursor) = writeAll (ringWrites us s) s.ring s.cursor := by
  induction us generalizing s with
  | nil => exact ⟨s, rfl, rfl⟩
  | cons u us ih =>
    obtain ⟨t, hrun, hl', hwrite, hnone⟩ := u.run_ring hl
    obtain ⟨t', hexec, hring'⟩ := ih hl' fun v hv => hus v (List.mem_cons_of_mem u hv)
    refine ⟨t', (execUnits_cons us hrun).trans hexec, ?_⟩
    rw [hring', ringWrites_cons us hrun]
    cases hw : u.ringWrite s with
    | none =>
      obtain ⟨hring, hcursor⟩ := hnone hw
      rw [if_neg (hus u List.mem_cons_self)] at hcursor
      rw [hring, hcursor]
      rfl
    | some v =>
      obtain ⟨hring, hcursor⟩ := hwrite v hw
      rw [hring, hcursor]
      rfl

/-- At CURSOR = 2 only generation 2 is written, and the last write stands (R121, R125). -/
theorem writeAll_saturated (vs : List AxisValues) (r : Ring) :
    (writeAll vs r 2).2 = 2 ∧ (∀ a, ∀ g ≠ 2, (writeAll vs r 2).1.entry a g = r.entry a g) ∧
      ∀ a, (writeAll vs r 2).1.entry a 2 = (vs.getLast?.map fun v => v.get a).getD (r.entry a 2) := by
  induction vs generalizing r with
  | nil => exact ⟨rfl, fun _ _ _ => rfl, fun _ => rfl⟩
  | cons v vs ih =>
    obtain ⟨hcursor, hother, hlast⟩ := ih (r.write 2 v)
    refine ⟨hcursor, fun a g hg => (hother a g hg).trans (r.entry_write_ne v a hg), fun a => (hlast a).trans ?_⟩
    rw [r.entry_write_self, List.getLast?_cons]
    cases vs.getLast? <;> rfl

/-- Settles O20: the first write goes to generation 0, the second to generation 1, and from then on CURSOR is 2. -/
theorem ringFreezesWhenTheCursorSaturates : Obligations.RingFreezesWhenTheCursorSaturates := by
  intro us s ws hl hc hus hws
  obtain ⟨t, hexec, ht⟩ := execUnits_writeAll us hl hus
  rw [hws, hc] at ht
  obtain ⟨hring, hcursor⟩ := Prod.mk.inj ht
  refine ⟨t, hexec, ?_⟩
  rw [hring, hcursor]
  match ws with
  | [] => simp [writeAll]
  | [v] => simp [writeAll, satInc, Ring.entry_write_self, Ring.entry_write_ne]
  | [v, w] => simp [writeAll, satInc, Ring.entry_write_self, Ring.entry_write_ne]
  | v :: w :: x :: vs =>
    obtain ⟨hsat, hother, hlast⟩ := writeAll_saturated (x :: vs) ((s.ring.write 0 v).write 1 w)
    have hwrites : writeAll (v :: w :: x :: vs) s.ring 0 =
        writeAll (x :: vs) ((s.ring.write 0 v).write 1 w) 2 := rfl
    rw [hwrites, hsat]
    refine ⟨by simp, fun a => ?_, fun a => ?_, fun _ y hy a => ?_, fun hlen => ?_⟩
    · rw [hother a 0 (by decide), Ring.entry_write_ne _ _ _ (by decide), Ring.entry_write_self]
      rfl
    · rw [hother a 1 (by decide), Ring.entry_write_self]
      rfl
    · rw [List.getLast?_cons_cons, List.getLast?_cons_cons] at hy
      rw [hlast a, hy]
      rfl
    · simp only [List.length_cons] at hlen
      omega

/-! ### Commands that leave the same state the second time -/

/-- A port that does not exist is not written (log 23). -/
theorem State.setHere_of_no_port {s : State} (x : Port) (h : ¬ s.env.port < s.nports) : s.setHere x = s := by
  have hlen : s.ports.length ≤ s.env.port := Nat.le_of_not_lt h
  simp only [State.setHere, State.setPort, List.set_eq_of_length_le hlen]

/-- The same answer again changes nothing. -/
theorem State.respond_respond (s : State) (ill res : Bool) (d : List Byte) :
    (s.respond ill res d).respond ill res d = s.respond ill res d := by
  by_cases hport : s.env.port < s.nports
  · have hhere : (s.respond ill res d).here = _ := s.here_setHere _ hport
    rw [State.respond, hhere]
    exact s.setPort_setPort _ _ _
  · exact State.setHere_of_no_port _ (by simpa using hport)

/-- The same values written again to one generation change nothing. -/
theorem Ring.write_write_self (r : Ring) (g : Fin 3) (v : AxisValues) : (r.write g v).write g v = r.write g v := by
  refine Ring.ext_entry fun a g' => ?_
  by_cases hg : g' = g
  · subst hg; rw [Ring.entry_write_self, Ring.entry_write_self]
  · exact Ring.entry_write_ne _ v a hg

/-- At CURSOR = 2 a ring write of what stands there changes nothing (R58, R120). -/
theorem State.ringWrite_self {s : State} {v : AxisValues} (hc : s.cursor = 2) (hr : s.ring.write 2 v = s.ring) :
    s.ringWrite v = s := by
  rw [State.ringWrite, hc, hr]
  cases s
  cases hc
  rfl

/-- Releasing LOCK and answering write different parts of the state. -/
theorem State.respond_setLock (s : State) (ill res : Bool) (d : List Byte) (b : Bool) :
    (s.respond ill res d).setLock b = (s.setLock b).respond ill res d := rfl

/-- RSTCUR changes nothing where CURSOR is 0 and its answer stands. -/
theorem execRstcur_self {s : State} (hl : s.lock = false) (hc : s.cursor = 0) (ha : s.respond false false [] = s) :
    exec .rstcur s = .next s := by
  have hcursor : s.setCursor 0 = s := by rw [← hc]; rfl
  rw [execRstcur_free hl, hcursor, ha, State.setLock_self hl]

/-- RWRITE changes nothing where its values stand at CURSOR = 2 and its answer stands. -/
theorem execRwrite_self {s : State} {v : AxisValues} (hl : s.lock = false) (hc : s.cursor = 2)
    (hr : s.ring.write 2 v = s.ring) (ha : s.respond false false [] = s) : exec (.rwrite v) s = .next s := by
  rw [execRwrite_free v hl, State.ringWrite_self hc hr, ha, State.setLock_self hl]

/-- Settles O21: a unit that held leaves its own state; otherwise both the element written and the answer are those that
stand already. -/
theorem idempotentCommands : Obligations.IdempotentCommands := by
  rintro i s t (rfl | rfl | ⟨e, rfl⟩ | ⟨v, rfl, hc⟩) h
  · rcases execRdpkt_next h with ⟨-, rfl⟩ | ⟨hl, -⟩
    · exact h
    · rw [execRdpkt_answers hl] at h
      cases h
      exact (execRdpkt_answers (by exact hl)).trans (congrArg Host.Outcome.next (s.respond_respond _ _ _))
  · rcases execRstcur_next h with ⟨-, rfl⟩ | ⟨-, rfl⟩
    · exact h
    · rw [State.respond_setLock]
      exact execRstcur_self rfl rfl (State.respond_respond _ _ _ _)
  · obtain rfl := execSeten_next h
    exact congrArg Host.Outcome.next ((s.setEnabled e).respond_respond false false [])
  · rcases execRwrite_next h with ⟨-, rfl⟩ | ⟨-, rfl⟩
    · exact h
    · rw [State.respond_setLock]
      have hcursor : (s.ringWrite v).cursor = 2 := by rw [State.ringWrite_cursor, hc]; rfl
      have hring : (s.ringWrite v).ring.write 2 v = (s.ringWrite v).ring := by
        rw [State.ringWrite_ring, hc, Ring.write_write_self]
      exact execRwrite_self rfl hcursor hring (State.respond_respond _ _ _ _)

end Sys2Proof.Machine
end

section
/-! PROOFS. The units of a TICK one by one (43_acquisition.md R151 to R156). -/

namespace Sys2Proof.Machine

/-! ### Which unit runs, and what it answers -/

section
variable {s : State} (ts : Nat)

theorem execTick_tXport (h : s.here.seq = .tXport) : exec (.tick ts) s = unitT1 s := by
  simp only [exec, execTick, h]

theorem execTick_tAddr (h : s.here.seq = .tAddr) : exec (.tick ts) s = unitT2 s := by
  simp only [exec, execTick, h]

theorem execTick_tRead (h : s.here.seq = .tRead) : exec (.tick ts) s = unitT3 s := by
  simp only [exec, execTick, h]

theorem execTick_tDesel (h : s.here.seq = .tDesel) : exec (.tick ts) s = unitT4 s := by
  simp only [exec, execTick, h]

/-- U_T0 without an enabled gate-pass is an answer (R152). -/
theorem execTick_rejected (hidle : s.here.seq = .idle)
    (h : ¬ (s.enabled = true ∧ GatePasses s.env.params s.lastTs ts)) :
    exec (.tick ts) s = .next (s.respond false false []) := by
  rw [execTick_idle ts hidle, unitT0]
  cases hen : s.enabled with
  | false => rfl
  | true =>
    have hgate : s.gate ts = (false, s.lastTs) := State.gate_of_not_passes fun hpass => h ⟨hen, hpass⟩
    rw [hgate]
    rfl

/-- U_T0 on an enabled gate-pass starts the acquisition (R152). -/
theorem execTick_starts (hidle : s.here.seq = .idle) (hen : s.enabled = true)
    (hpass : GatePasses s.env.params s.lastTs ts) :
    exec (.tick ts) s = .next (((s.setLastTs ts).setTsl ts).setSeq .tXport) := by
  rw [execTick_idle ts hidle, unitT0, hen, State.gate_of_passes hpass]

/-- U_T1 holds while the transport has an owner (R153). -/
theorem unitT1_held (h : s.xportOwner ≠ none) : unitT1 s = .next s := by
  obtain ⟨q, hq⟩ := Option.ne_none_iff_exists'.1 h
  rw [unitT1, hq, hold]

/-- U_T1 takes a free transport (R153). -/
theorem unitT1_takes (h : s.xportOwner = none) :
    unitT1 s = .next (((s.takeTransport s.env.port).logTx .selAssert).setSeq .tAddr) := by
  rw [unitT1, h]

/-- U_T2 holds until the byte is taken (R154). -/
theorem unitT2_held (h : s.env.answer ≠ some .taken) : unitT2 s = .next s := by
  unfold unitT2
  split
  · next hans => exact absurd hans h
  · rfl

/-- U_T2 jointly with the transport (R154). -/
theorem unitT2_writes (h : s.env.answer = some .taken) :
    unitT2 s = .next ((s.logTx (.write [s.env.params.gyroAddrByte])).setSeq .tRead) := by
  rw [unitT2, h]

/-- U_T3 holds until the transport answers (R154). -/
theorem unitT3_held (h : ∀ r, s.env.answer ≠ some (.bytes r)) : unitT3 s = .next s := by
  unfold unitT3
  split
  · next r hans => exact absurd hans (h r)
  · rfl

/-- U_T3 jointly with the transport (R154). -/
theorem unitT3_reads {r : XferBytes} (h : s.env.answer = some (.bytes r)) :
    unitT3 s = .next (((s.logTx (.read Config.xferLen r)).setRxb r).setSeq .tDesel) := by
  rw [unitT3, h]

/-- U_T5 at LOCK = 1 holds (R60). -/
theorem unitT5_held (h : s.lock = true) : unitT5 s = .next s :=
  ringUnit_held (fun s => ((s.ringWrite (tickValues s.here.rxb)).respond false true []).setSeq .idle) h

/-- U_T5 at LOCK = 0 writes the sample, answers and ends the TICK (R156). -/
theorem unitT5_ends (h : s.lock = false) :
    unitT5 s = .next (((s.ringWrite (tickValues s.here.rxb)).respond false true []).setSeq .idle) := by
  have hlock : (((s.ringWrite (tickValues s.here.rxb)).respond false true []).setSeq .idle).lock = false := h
  rw [unitT5_free h, State.setLock_self hlock]

end

/-! ### The port of the step after a unit -/

/-- After starting an acquisition the port holds the timestamp and stands at T_XPORT (R152). -/
theorem State.start_portAt {s : State} (ts : Nat) (h : s.env.port < s.nports) :
    (((s.setLastTs ts).setTsl ts).setSeq .tXport).portAt s.env.port = { s.here with seq := .tXport, tsl := ts } := by
  have hhere : ((s.setLastTs ts).setTsl ts).here = { s.here with tsl := ts } := (s.setLastTs ts).here_setHere _ h
  rw [State.setSeq, hhere]
  exact State.here_setHere _ _ (by rwa [State.setTsl_nports])

/-- After the read the port holds its bytes and stands at T_DESEL (R154). -/
theorem State.setRxb_setSeq_portAt (s : State) (r : XferBytes) (ph : Phase) (h : s.env.port < s.nports) :
    ((s.setRxb r).setSeq ph).portAt s.env.port = { s.here with seq := ph, rxb := r } := by
  have hhere : (s.setRxb r).here = { s.here with rxb := r } := s.here_setHere _ h
  rw [State.setSeq, hhere]
  exact State.here_setHere _ _ (by rwa [State.setRxb_nports])

/-- Writing `seq` writes nothing else of the port (R8). -/
theorem State.setSeq_portAt (s : State) (ph : Phase) (h : s.env.port < s.nports) :
    (s.setSeq ph).portAt s.env.port = { s.here with seq := ph } :=
  s.here_setHere _ h

/-- After the answer of a command in progress the port is IDLE with its response standing (R27). -/
theorem State.respond_setSeq_portAt (s : State) (ill res : Bool) (d : List Byte) (ph : Phase)
    (h : s.env.port < s.nports) :
    ((s.respond ill res d).setSeq ph).portAt s.env.port =
      { s.here with seq := ph, chan := { s.here.chan with response := some (responseFrame ill res d) } } := by
  have hhere : (s.respond ill res d).here = _ := s.here_setHere _ h
  rw [State.setSeq, hhere]
  exact State.here_setHere _ _ (by rwa [State.respond_nports])

/-- Two writes at the port of the step leave every other port alone. -/
theorem State.setHere_setHere_portAt (s : State) (x y : Port) {q : Nat} (h : q ≠ s.env.port) :
    ((s.setHere x).setHere y).portAt q = s.portAt q :=
  ((s.setHere x).portAt_setPort_ne y h).trans (s.portAt_setPort_ne x h)

/-! ### The statements about single units -/

/-- Settles O23: U_T0 has two outcomes, an answer, or the start of the acquisition. -/
theorem tickStartsOnlyOnAnEnabledGatePass : Obligations.TickStartsOnlyOnAnEnabledGatePass := by
  intro ts s hport hidle
  by_cases hstart : s.enabled = true ∧ GatePasses s.env.params s.lastTs ts
  · have hp := State.start_portAt ts hport
    simp only [if_pos hstart]
    refine ⟨_, execTick_starts ts hidle hstart.1 hstart.2, rfl, rfl, rfl, rfl, ⟨rfl, rfl⟩, rfl, rfl,
      ⟨⟨by simp, fun q hq => State.setHere_setHere_portAt (s.setLastTs ts) _ _ hq⟩, ?_, ?_, ?_⟩, ?_, ?_⟩ <;>
      simp only [State.seqAt, State.responseAt, State.frameAt, State.tslAt, State.rxbAt, hp, State.here]
  · have hanswer := s.respond_answers false false [] hport
    rw [responseFrame_ok] at hanswer
    simp only [if_neg hstart]
    exact ⟨_, execTick_rejected ts hidle hstart, rfl, rfl, rfl, rfl, ⟨rfl, rfl⟩, rfl, rfl, hanswer⟩

/-- Settles O24: U_T1 writes the transport's two elements, the record and `seq`. -/
theorem tickTakesTheTransportOrHolds : Obligations.TickTakesTheTransportOrHolds := by
  intro ts s hport hseq
  refine ⟨fun howned => (execTick_tXport ts hseq).trans (unitT1_held howned), fun hfree => ?_⟩
  obtain ⟨hwent, htsl, hrxb⟩ := State.setSeq_wentTo ((s.takeTransport s.env.port).logTx .selAssert) .tAddr hport
  exact ⟨_, (execTick_tXport ts hseq).trans (unitT1_takes hfree), rfl, rfl, hwent, htsl, hrxb,
    ⟨rfl, rfl, rfl, rfl, rfl⟩, rfl⟩

/-- Settles O25: each of the two units holds without the transport's completion, and with it records the operation and
writes its port. -/
theorem tickTransfersJointlyWithTheTransport : Obligations.TickTransfersJointlyWithTheTransport := by
  intro ts s hport
  refine ⟨fun hseq => ⟨fun hno => (execTick_tAddr ts hseq).trans (unitT2_held hno), fun htaken => ?_⟩,
    fun hseq => ⟨fun hno => (execTick_tRead ts hseq).trans (unitT3_held hno), fun r hbytes => ?_⟩⟩
  · obtain ⟨hwent, htsl, hrxb⟩ := State.setSeq_wentTo (s.logTx (.write [s.env.params.gyroAddrByte])) .tRead hport
    exact ⟨_, (execTick_tAddr ts hseq).trans (unitT2_writes htaken), hwent, htsl, hrxb, ⟨rfl, rfl, rfl, rfl, rfl⟩,
      ⟨rfl, rfl⟩, rfl⟩
  · have hp := State.setRxb_setSeq_portAt (s.logTx (.read Config.xferLen r)) r .tDesel hport
    refine ⟨_, (execTick_tRead ts hseq).trans (unitT3_reads hbytes),
      ⟨⟨by simp, fun q hq => State.setHere_setHere_portAt (s.logTx (.read Config.xferLen r)) _ _ hq⟩, ?_, ?_, ?_⟩,
      ?_, ?_, ⟨rfl, rfl, rfl, rfl, rfl⟩, ⟨rfl, rfl⟩, rfl⟩
    · exact congrArg Port.seq hp
    · exact congrArg (fun x => x.chan.response) hp
    · exact congrArg (fun x => x.chan.frame) hp
    · exact (congrArg Port.tsl hp :)
    · exact (congrArg Port.rxb hp :)

/-- Settles O26: U_T4 writes the transport's two elements, the record and `seq`. -/
theorem tickReleasesTheTransport : Obligations.TickReleasesTheTransport := by
  intro ts s hport hseq
  obtain ⟨hwent, htsl, hrxb⟩ := State.setSeq_wentTo (s.releaseTransport.logTx .selDeassert) .tWrite hport
  exact ⟨_, execTick_tDesel ts hseq, rfl, rfl, hwent, htsl, hrxb, ⟨rfl, rfl, rfl, rfl, rfl⟩, rfl⟩

/-- Settles O29: past U_T0 no unit reads or writes ENABLED, so each runs the same under the other value. -/
theorem enableIsTakenOnce : Obligations.EnableIsTakenOnce := by
  intro ts e s t hseq h
  rcases execTick_next h with ⟨hidle, -⟩ | ⟨hph, hu⟩ | ⟨hph, hu⟩ | ⟨hph, hu⟩ | ⟨hph, hu⟩ | ⟨hph, hu⟩
  · exact absurd hidle hseq
  · refine (execTick_tXport (s := s.setEnabled e) ts hph).trans ?_
    rcases unitT1_next hu with ⟨howned, rfl⟩ | ⟨hfree, rfl⟩
    · exact unitT1_held (s := State.setEnabled _ e) howned
    · exact unitT1_takes (s := s.setEnabled e) hfree
  · refine (execTick_tAddr (s := s.setEnabled e) ts hph).trans ?_
    rcases unitT2_next hu with ⟨hno, rfl⟩ | ⟨htaken, rfl⟩
    · exact unitT2_held (s := State.setEnabled _ e) hno
    · exact unitT2_writes (s := s.setEnabled e) htaken
  · refine (execTick_tRead (s := s.setEnabled e) ts hph).trans ?_
    rcases unitT3_next hu with ⟨hno, rfl⟩ | ⟨r, hbytes, rfl⟩
    · exact unitT3_held (s := State.setEnabled _ e) hno
    · exact unitT3_reads (s := s.setEnabled e) hbytes
  · obtain rfl := unitT4_next hu
    exact execTick_tDesel (s := s.setEnabled e) ts hph
  · refine (execTick_tWrite (s := s.setEnabled e) ts hph).trans ?_
    rcases unitT5_next hu with ⟨hheld, rfl⟩ | ⟨hfree, rfl⟩
    · exact unitT5_held (s := State.setEnabled _ e) hheld
    · exact unitT5_free (s := s.setEnabled e) hfree

/-! ### TICKs that start nothing -/

/-- A disabled idle port answers a list of TICKs as it answers one: the same answer again changes nothing. -/
theorem execAll_disabled_ticks (tss : List Nat) {s : State} (hidle : s.here.seq = .idle) (hen : s.enabled = false) :
    execAll (tss.map .tick) s = .next (if tss = [] then s else s.respond false false []) := by
  induction tss generalizing s with
  | nil => rfl
  | cons ts tss ih =>
    have hone : exec (.tick ts) s = .next (s.respond false false []) :=
      execTick_rejected ts hidle fun h => by simp [hen] at h
    have hidle' : (s.respond false false []).here.seq = .idle := by
      obtain ⟨-, -, -, -, -, -, -, -, hports⟩ := s.setChannelHere_sameElements
        { s.here.chan with response := some (responseFrame false false []) }
      exact (hports s.env.port).1.trans hidle
    have hrest := ih hidle' hen
    rw [State.respond_respond, ite_self] at hrest
    rw [List.map_cons, execAll, hone, if_neg (List.cons_ne_nil ts tss)]
    exact hrest

/-- No update at all changes no element. -/
theorem SameElements.refl (s : State) : SameElements s s :=
  ⟨rfl, rfl, rfl, rfl, rfl, rfl, rfl, rfl, fun _ => ⟨rfl, rfl, rfl⟩⟩

/-- Settles O30: any number of TICKs at a disabled idle port leave what one answer 0x00 leaves. -/
theorem disabledTicksChangeNothing : Obligations.DisabledTicksChangeNothing := by
  intro tss s hport hidle hen
  refine ⟨_, execAll_disabled_ticks tss hidle hen, ?_⟩
  by_cases hnil : tss = []
  · rw [if_pos hnil]
    exact ⟨.refl s, rfl, fun hne => absurd hnil hne⟩
  · obtain ⟨-, hresponse, -⟩ := s.respond_answers false false [] hport
    rw [responseFrame_ok] at hresponse
    rw [if_neg hnil]
    exact ⟨s.setChannelHere_sameElements _, rfl, fun _ => hresponse⟩

/-- Settles O31: the first TICK leaves LAST_TS = ts, at which ts does not pass, and the other port stands IDLE still. -/
theorem secondOfTwoEqualTicksFails : Obligations.SecondOfTwoEqualTicksFails := by
  intro ts q s t hport hq hne hidle hidleq hen hpass h
  obtain ⟨-, hn, hother⟩ := exec_other_ports h
  rw [execTick_starts ts hidle hen hpass] at h
  have hlast : t.lastTs = ts := by cases h; rfl
  have hseq : (t.turn q none).here.seq = .idle := (congrArg Port.seq (hother q hne)).trans hidleq
  have hfail : ¬ ((t.turn q none).enabled = true ∧
      GatePasses (t.turn q none).env.params (t.turn q none).lastTs ts) := fun hstart => hstart.2.1 hlast.symm
  obtain ⟨-, hresponse, -⟩ := (t.turn q none).respond_answers false false [] (hn.symm ▸ hq)
  rw [responseFrame_ok] at hresponse
  exact ⟨_, execTick_rejected ts hseq hfail, hresponse, (t.turn q none).setChannelHere_sameElements _⟩

/-! ### An RSTCUR while a TICK is in progress -/

/-- Units without a ring write keep RING, CURSOR = 0 and LOCK = 0, RSTCUR among them (R57). -/
theorem execUnits_no_ringWrite (us : List PortUnit) {s t : State} (hl : s.lock = false) (hc : s.cursor = 0)
    (h : execUnits us s = .next t) (hws : ringWrites us s = []) :
    t.lock = false ∧ t.cursor = 0 ∧ t.ring = s.ring := by
  induction us generalizing s with
  | nil => cases h; exact ⟨hl, hc, rfl⟩
  | cons u us ih =>
    obtain ⟨s', hrun, hl', -, hnone⟩ := u.run_ring hl
    rw [execUnits_cons us hrun] at h
    rw [ringWrites_cons us hrun, List.append_eq_nil_iff, Option.toList_eq_nil_iff] at hws
    obtain ⟨hring', hc'⟩ := hnone hws.1
    rw [hc, ite_self] at hc'
    obtain ⟨hlt, hct, hringt⟩ := ih hl' hc' h hws.2
    exact ⟨hlt, hct, hringt.trans hring'⟩

/-- Settles O32: the RSTCUR leaves CURSOR = 0, no unit after it moves CURSOR, and U_T5 writes there. -/
theorem resetCursorRedirectsAPendingTick : Obligations.ResetCursorRedirectsAPendingTick := by
  intro ts p q a us s u w _ _ _ hl _ hreset hexec hws hseq
  rw [execRstcur_answers (s := s.turn q none) hl] at hreset
  cases hreset
  obtain ⟨hlw, hcw, hringw⟩ := execUnits_no_ringWrite us (by exact hl) rfl hexec hws
  refine ⟨_, (execTick_tWrite (s := w.turn p a) ts hseq).trans (unitT5_ends hlw), ?_, fun x g => ?_⟩
  · exact congrArg satInc hcw
  · have hwrote : WroteGeneration (tickValues (w.rxbAt p)) w
        ((((w.turn p a).ringWrite (tickValues (w.turn p a).here.rxb)).respond false true []).setSeq .idle) :=
      wroteGeneration_of_ring_eq rfl
    rw [hwrote x g, hcw, hringw]
    rfl

end Sys2Proof.Machine
end

section
/-! PROOFS. What a turn of a sequencer can do: one inversion over all commands and units, with its frame (R8, R27, R56). -/

namespace Sys2Proof.Machine

/-! ### Accepting a frame -/

/-- The port of this step is IDLE, its previous response is taken, and it is shown this frame (R27). -/
def State.Shows (s : State) (f : Frame) : Prop :=
  s.here.seq = .idle ∧ s.here.chan.response = none ∧ s.here.chan.frame = some f

/-- The port of this step is ready for a frame of this command. -/
def State.Accepts (s : State) (i : Instr) : Prop := ∃ f, s.Shows f ∧ decode s.env.params.tsW f = .ok i

/-- The turn of a port with a command in progress is its TICK's next unit (R28, R56). -/
theorem runSequencer_in_progress {s : State} (h : s.here.seq ≠ .idle) :
    runSequencer s = exec (.tick s.here.tsl) s := by
  unfold runSequencer
  split
  · next hidle => exact absurd hidle h
  · rfl

/-- The turn of an idle port that has nothing to accept changes nothing (R27, R191). -/
theorem runSequencer_nothing {s : State} (hidle : s.here.seq = .idle)
    (h : s.here.chan.response ≠ none ∨ s.here.chan.frame = none) : runSequencer s = .next s := by
  simp only [runSequencer, hidle, runIdle]
  split
  · rfl
  · rfl
  · next f hr hf =>
    rcases h with hne | hnone
    · exact absurd hr hne
    · rw [hf] at hnone; cases hnone

/-- The turn of an idle port runs the frame it is shown (R27). -/
theorem runSequencer_shows {s : State} {f : Frame} (h : s.Shows f) : runSequencer s = runFrame f s := by
  obtain ⟨hidle, hr, hf⟩ := h
  simp only [runSequencer, hidle, runIdle, hr, hf]

/-- A legal frame is its command (R76). -/
theorem runFrame_legal {s : State} {f : Frame} {i : Instr} (h : decode s.env.params.tsW f = .ok i) :
    runFrame f s = acceptAfter (exec i s) := by
  simp only [runFrame, h]

/-- A first unit that held leaves its frame shown (R8). -/
theorem acceptAfter_held {s : State} {f : Frame} (h : s.Shows f) : acceptAfter (.next s) = .next s := by
  obtain ⟨hidle, hr, -⟩ := h
  simp [acceptAfter, State.accepted, hidle, hr]

/-- A TICK that started has left IDLE, so its frame is accepted (R27, R152). -/
theorem acceptAfter_start {s : State} (ts : Nat) (h : s.env.port < s.nports) :
    acceptAfter (.next (((s.setLastTs ts).setTsl ts).setSeq .tXport)) =
      .next (((s.setLastTs ts).setTsl ts).setSeq .tXport).dropFrame := by
  have hseq : (((s.setLastTs ts).setTsl ts).setSeq .tXport).here.seq = .tXport :=
    congrArg Port.seq (State.start_portAt ts h)
  simp [acceptAfter, State.accepted, hseq]

/-! ### When a port is not able to run -/

/-- A port that shows a frame is able to run when the frame is. -/
theorem State.ableToRun_shows {s : State} {f : Frame} (h : s.Shows f) :
    s.ableToRun s.env.port = s.frameAbleToRun f := by
  obtain ⟨hidle, hr, hf⟩ := h
  simp only [State.here] at hidle hr hf
  simp only [State.ableToRun, hidle, hr, hf]

/-- A port that has nothing to accept is not able to run (R27). -/
theorem State.ableToRun_nothing {s : State} {p : Nat} (hidle : (s.portAt p).seq = .idle)
    (h : (s.portAt p).chan.response ≠ none ∨ (s.portAt p).chan.frame = none) : s.ableToRun p = false := by
  simp only [State.ableToRun, hidle]
  split
  · rfl
  · rfl
  · next f hr hf =>
    rcases h with hne | hnone
    · exact absurd hr hne
    · rw [hf] at hnone; cases hnone

/-- A ring command's frame is not able to run at LOCK = 1 (R60). -/
theorem State.ableToRun_locked {s : State} {f : Frame} {i : Instr} (h : s.Shows f)
    (hdec : decode s.env.params.tsW f = .ok i) (hi : takesLock i = true) (hl : s.lock = true) :
    s.ableToRun s.env.port = false := by
  rw [State.ableToRun_shows h]
  simp only [State.frameAbleToRun, hdec, hi, hl, Bool.and_self, Bool.not_true]

/-! ### The effects of a turn -/

/-- What an answer to a shown frame goes with: the state `u` it leaves but for the port's channel, and its status bits and
data (R79). -/
inductive Answer (s : State) : State → Bool → Bool → List Byte → Prop where
  | illegal : Answer s s true false []
  | rejected : Answer s s false false []
  | gatePass {ts : Nat} (hacc : s.Accepts (.gate ts)) (hpass : GatePasses s.env.params s.lastTs ts) :
      Answer s (s.setLastTs ts) false true []
  | rwrite {v : AxisValues} (hacc : s.Accepts (.rwrite v)) : Answer s (s.ringWrite v) false false []
  | rdpkt : Answer s s false false s.ring.ser
  | rstcur (hacc : s.Accepts .rstcur) : Answer s (s.setCursor 0) false false []
  | seten {e : Bool} (hacc : s.Accepts (.seten e)) : Answer s (s.setEnabled e) false false []

/-- An answer's command writes no port, no environment, no LOCK and nothing of the transport. -/
theorem Answer.leaves {s u : State} {ill res : Bool} {d : List Byte} (h : Answer s u ill res d) :
    u.ports = s.ports ∧ u.env = s.env ∧ u.lock = s.lock ∧ u.xportOwner = s.xportOwner ∧ u.sel = s.sel := by
  cases h <;> exact ⟨rfl, rfl, rfl, rfl, rfl⟩

/-- The port of the step exists after an answer's command, as before. -/
theorem Answer.port_lt {s u : State} {ill res : Bool} {d : List Byte} (h : Answer s u ill res d)
    (hport : s.env.port < s.nports) : u.env.port < u.nports := by
  obtain ⟨hports, henv, -⟩ := h.leaves
  rw [henv, State.nports, hports]
  exact hport

/-- The effects of a sequencer's turn: it holds, a shown frame is answered, a TICK starts, or a TICK in progress makes one
of its five further units. -/
inductive TurnEffect (s : State) : State → Prop where
  | hold (hable : s.ableToRun s.env.port = false) : TurnEffect s s
  | answer {f : Frame} {u : State} {ill res : Bool} {d : List Byte} (hshown : s.Shows f) (hans : Answer s u ill res d) :
      TurnEffect s (u.respond ill res d).dropFrame
  | start {ts : Nat} (hacc : s.Accepts (.tick ts)) (hen : s.enabled = true)
      (hpass : GatePasses s.env.params s.lastTs ts) :
      TurnEffect s (((s.setLastTs ts).setTsl ts).setSeq .tXport).dropFrame
  | select (hseq : s.here.seq = .tXport) (hfree : s.xportOwner = none) :
      TurnEffect s (((s.takeTransport s.env.port).logTx .selAssert).setSeq .tAddr)
  | address (hseq : s.here.seq = .tAddr) (hans : s.env.answer = some .taken) :
      TurnEffect s ((s.logTx (.write [s.env.params.gyroAddrByte])).setSeq .tRead)
  | read {r : XferBytes} (hseq : s.here.seq = .tRead) (hans : s.env.answer = some (.bytes r)) :
      TurnEffect s (((s.logTx (.read Config.xferLen r)).setRxb r).setSeq .tDesel)
  | deselect (hseq : s.here.seq = .tDesel) : TurnEffect s ((s.releaseTransport.logTx .selDeassert).setSeq .tWrite)
  | ringWrite (hseq : s.here.seq = .tWrite) :
      TurnEffect s (((s.ringWrite (tickValues s.here.rxb)).respond false true []).setSeq .idle)

/-- A unit of a TICK in progress has one of the effects. -/
theorem turnEffect_of_tick {ts : Nat} {s t : State} (hseq : s.here.seq ≠ .idle) (h : exec (.tick ts) s = .next t) :
    TurnEffect s t := by
  rcases execTick_next h with ⟨hidle, -⟩ | ⟨hph, hu⟩ | ⟨hph, hu⟩ | ⟨hph, hu⟩ | ⟨hph, hu⟩ | ⟨hph, hu⟩
  · exact absurd hidle hseq
  · rcases unitT1_next hu with ⟨howned, rfl⟩ | ⟨hfree, rfl⟩
    · exact .hold ((State.ableToRun_tXport hph).trans (Option.isNone_eq_false_iff.2 (Option.isSome_iff_ne_none.2 howned)))
    · exact .select hph hfree
  · rcases unitT2_next hu with ⟨-, rfl⟩ | ⟨htaken, rfl⟩
    · exact .hold (State.ableToRun_tAddr hph)
    · exact .address hph htaken
  · rcases unitT3_next hu with ⟨-, rfl⟩ | ⟨r, hbytes, rfl⟩
    · exact .hold (State.ableToRun_tRead hph)
    · exact .read hph hbytes
  · obtain rfl := unitT4_next hu
    exact .deselect hph
  · cases hl : s.lock with
    | true =>
      rw [unitT5_held hl] at hu
      cases hu
      exact .hold (by rw [State.ableToRun_tWrite hph, hl]; rfl)
    | false =>
      rw [unitT5_ends hl] at hu
      cases hu
      exact .ringWrite hph

/-- The first unit of a shown command has one of the effects. -/
theorem turnEffect_of_command {s t : State} {f : Frame} {i : Instr} (hport : s.env.port < s.nports) (hshown : s.Shows f)
    (hdec : decode s.env.params.tsW f = .ok i) (h : acceptAfter (exec i s) = .next t) : TurnEffect s t := by
  have hacc : s.Accepts i := ⟨f, hshown, hdec⟩
  have hanswer : ∀ {u : State} {ill res : Bool} {d : List Byte}, Answer s u ill res d →
      exec i s = .next (u.respond ill res d) → TurnEffect s t := by
    intro u ill res d hans hexec
    rw [hexec, acceptAfter_respond ill res d (hans.port_lt hport)] at h
    cases h
    exact .answer hshown hans
  have hlocked : takesLock i = true → s.lock = true → exec i s = .next s → TurnEffect s t := by
    intro hi hl hexec
    rw [hexec, acceptAfter_held hshown] at h
    cases h
    exact .hold (State.ableToRun_locked hshown hdec hi hl)
  cases i with
  | gate ts =>
    by_cases hpass : GatePasses s.env.params s.lastTs ts
    · exact hanswer (.gatePass hacc hpass) (execGate_of_passes hpass)
    · exact hanswer .rejected (execGate_of_not_passes hpass)
  | rwrite v =>
    cases hl : s.lock with
    | true => exact hlocked rfl hl (execRwrite_held v hl)
    | false => exact hanswer (.rwrite hacc) (execRwrite_answers v hl)
  | rdpkt =>
    cases hl : s.lock with
    | true => exact hlocked rfl hl (execRdpkt_held hl)
    | false => exact hanswer .rdpkt (execRdpkt_answers hl)
  | rstcur =>
    cases hl : s.lock with
    | true => exact hlocked rfl hl (execRstcur_held hl)
    | false => exact hanswer (.rstcur hacc) (execRstcur_answers hl)
  | tick ts =>
    by_cases hstart : s.enabled = true ∧ GatePasses s.env.params s.lastTs ts
    · rw [execTick_starts ts hshown.1 hstart.1 hstart.2, acceptAfter_start ts hport] at h
      cases h
      exact .start hacc hstart.1 hstart.2
    · exact hanswer .rejected (execTick_rejected ts hshown.1 hstart)
  | seten e => exact hanswer (.seten hacc) rfl

/-- Every turn of a port that exists has one of the effects. -/
theorem runSequencer_effect {s t : State} (hport : s.env.port < s.nports) (h : runSequencer s = .next t) :
    TurnEffect s t := by
  rcases runSequencer_next h with ⟨hseq, htick⟩ | ⟨hidle, hno, rfl⟩ | ⟨hidle, hr, f, hf, ⟨e, -, hill⟩ | ⟨i, hdec, hcmd⟩⟩
  · exact turnEffect_of_tick hseq htick
  · exact .hold (State.ableToRun_nothing hidle hno)
  · rw [answerIllegal, acceptAfter_respond true false [] hport] at hill
    cases hill
    exact .answer ⟨hidle, hr, hf⟩ .illegal
  · exact turnEffect_of_command hport ⟨hidle, hr, hf⟩ hdec hcmd

/-! ### What the effects leave -/

/-- Every answer is one of the four of R79. -/
theorem Answer.frame {s u : State} {ill res : Bool} {d : List Byte} (h : Answer s u ill res d) :
    responseFrame ill res d ∈ [[0x00], [0x02], [0x01], 0x00 :: s.ring.ser] := by
  cases h <;> simp [responseFrame_ok, responseFrame_res, responseFrame_illegal]

/-- The port of the step after a shown frame was answered: IDLE, with the response and no frame (R27). -/
theorem State.respond_dropFrame_portAt (s : State) (ill res : Bool) (d : List Byte) (h : s.env.port < s.nports) :
    (s.respond ill res d).dropFrame.portAt s.env.port =
      { s.here with chan := { frame := none, response := some (responseFrame ill res d) } } := by
  have hhere : (s.respond ill res d).here = _ := s.here_setHere _ h
  rw [State.dropFrame, hhere]
  exact State.here_setHere _ _ (by rwa [State.respond_nports])

/-- The same, with the answer's command run before it. -/
theorem Answer.portAt {s u : State} {ill res : Bool} {d : List Byte} (h : Answer s u ill res d)
    (hport : s.env.port < s.nports) :
    (u.respond ill res d).dropFrame.portAt s.env.port =
      { s.here with chan := { frame := none, response := some (responseFrame ill res d) } } := by
  obtain ⟨hports, henv, -⟩ := h.leaves
  have hhere : u.here = s.here := by rw [State.here, State.here, henv]; exact State.portAt_congr hports _
  have hu := u.respond_dropFrame_portAt ill res d (h.port_lt hport)
  rwa [henv, hhere] at hu

/-- The port of the step after a TICK started: at T_XPORT, with the timestamp and no frame (R152). -/
theorem State.start_dropFrame_portAt {s : State} (ts : Nat) (h : s.env.port < s.nports) :
    (((s.setLastTs ts).setTsl ts).setSeq .tXport).dropFrame.portAt s.env.port =
      { s.here with seq := .tXport, tsl := ts, chan := { s.here.chan with frame := none } } := by
  have hhere : (((s.setLastTs ts).setTsl ts).setSeq .tXport).here = _ := State.start_portAt ts h
  rw [State.dropFrame, hhere]
  exact State.here_setHere _ _ (by simpa using h)

/-- A turn writes no port but its own, and leaves the parameters, the inputs, the port of the step and LOCK. -/
theorem TurnEffect.leaves {s t : State} (h : TurnEffect s t) :
    SamePortsBut s.env.port s t ∧ t.env.params = s.env.params ∧ t.env.inputs = s.env.inputs ∧
      t.env.port = s.env.port ∧ t.lock = s.lock := by
  cases h with
  | hold => exact ⟨⟨rfl, fun _ _ => rfl⟩, rfl, rfl, rfl, rfl⟩
  | @answer f u ill res d hshown hans =>
    obtain ⟨hports, henv, hlock, -⟩ := hans.leaves
    have hn : u.nports = s.nports := congrArg List.length hports
    refine ⟨⟨by simpa using hn, fun q hq => ?_⟩, congrArg Env.params henv, congrArg Env.inputs henv,
      congrArg Env.port henv, hlock⟩
    rw [← henv] at hq
    exact (State.setHere_setHere_portAt u _ _ hq).trans (State.portAt_congr hports q)
  | @start ts =>
    refine ⟨⟨by simp, fun q hq => ?_⟩, rfl, rfl, rfl, rfl⟩
    exact (State.portAt_setPort_ne _ _ hq).trans (State.setHere_setHere_portAt (s.setLastTs ts) _ _ hq)
  | select => exact ⟨⟨by simp, fun q hq => State.portAt_setPort_ne _ _ hq⟩, rfl, rfl, rfl, rfl⟩
  | address => exact ⟨⟨by simp, fun q hq => State.portAt_setPort_ne _ _ hq⟩, rfl, rfl, rfl, rfl⟩
  | @read r =>
    exact ⟨⟨by simp, fun q hq => State.setHere_setHere_portAt (s.logTx (.read Config.xferLen r)) _ _ hq⟩,
      rfl, rfl, rfl, rfl⟩
  | deselect => exact ⟨⟨by simp, fun q hq => State.portAt_setPort_ne _ _ hq⟩, rfl, rfl, rfl, rfl⟩
  | ringWrite =>
    exact ⟨⟨by simp, fun q hq => State.setHere_setHere_portAt (s.ringWrite (tickValues s.here.rxb)) _ _ hq⟩,
      rfl, rfl, rfl, rfl⟩

/-! ### The effects of a step -/

/-- The effects of a step: no input, the reset input, an issuer's move, which writes one channel, or a sequencer's turn
(R59, R201). -/
inductive StepEffect (s : State) : State → Prop where
  | none (hin : s.env.inputs = []) : StepEffect s s
  | reset {m : Move} {rest : List Input} (hin : s.env.inputs = { reset := true, move := m } :: rest) :
      StepEffect s (s.withInputs rest).applyReset
  | issuer {m : Move} {rest : List Input} {c : Channel} (hin : s.env.inputs = { reset := false, move := m } :: rest)
      (hm : ∀ p a, m ≠ .run p a) (hp : m.port < s.nports)
      (hresponse : c.response = s.responseAt m.port ∨ c.response = .none)
      (hframe : c.frame = .none → m = .withdraw m.port ∨ s.frameAt m.port = .none) :
      StepEffect s ((s.withInputs rest).setChan m.port c)
  | turn {p : Nat} {a : Option TxAnswer} {rest : List Input} {t : State}
      (hin : s.env.inputs = { reset := false, move := .run p a } :: rest) (hp : p < s.nports)
      (heff : TurnEffect ((s.withInputs rest).turn p a) t) : StepEffect s t

/-- Every step has one of the effects. -/
theorem step_effect {s t : State} (h : step s = .next t) : StepEffect s t := by
  rcases step_next h with ⟨hin, rfl⟩ | ⟨⟨rst, m⟩, rest, hin, ⟨hr, rfl⟩ | ⟨hr, hp, hmove⟩⟩
  · exact .none hin
  · obtain rfl : rst = true := hr
    exact .reset hin
  · obtain rfl : rst = false := hr
    cases m with
    | present p f =>
      cases hmove
      exact .issuer hin nofun hp (.inl rfl) nofun
    | withdraw p =>
      cases hmove
      exact .issuer hin nofun hp (.inl rfl) fun _ => .inl rfl
    | take p =>
      cases hmove
      exact .issuer hin nofun hp (.inr rfl) .inr
    | run p a => exact .turn hin hp (runSequencer_effect hp hmove)

/-- An issuer's move changes no element (R32). -/
theorem State.setChan_sameElements (s : State) (p : Nat) (c : Channel) : SameElements s (s.setChan p c) :=
  (s.turn p .none).setChannelHere_sameElements c

/-- Reading a port after the reset input (R200, log 15). -/
theorem State.applyReset_portAt (s : State) (p : Nat) : s.applyReset.portAt p = (s.portAt p).onReset := by
  simp only [State.portAt, State.applyReset, List.getElem?_map]
  cases s.ports[p]? <;> rfl

theorem State.applyReset_nports (s : State) : s.applyReset.nports = s.nports :=
  List.length_map _

/-- Every entry of the zero ring is zero. -/
theorem Ring.zero_entry (a : Axis) (g : Fin 3) : Ring.zero.entry a g = 0 := by
  cases a <;> fin_cases g <;> rfl

/-! ### The statements about single steps -/

/-- Settles O33: the turn is `acceptAfter` of the command's first unit, and `accepted` is what separates the clauses. -/
theorem stepRunsTheDecodedCommand : Obligations.StepRunsTheDecodedCommand := by
  intro s t p a rest f i hin hp hidle hr hf hdec hexec
  have hshown : ((s.withInputs rest).turn p a).Shows f := ⟨hidle, hr, hf⟩
  have hstep : step s = acceptAfter (.next t) := by
    have hlegal : runFrame f ((s.withInputs rest).turn p a) = acceptAfter (exec i ((s.withInputs rest).turn p a)) :=
      runFrame_legal hdec
    rw [step_turn hin hp, runSequencer_shows hshown, hlegal, hexec]
  obtain ⟨hhere, hn, -⟩ := exec_other_ports hexec
  have hport : t.env.port = p := hhere
  have haccepted : t.accepted = ((t.responseAt p).isSome || decide (t.seqAt p ≠ .idle)) := by
    rw [State.accepted, State.here, hport]; rfl
  constructor
  · rintro ⟨hresponse, hseq⟩
    rw [hstep, acceptAfter, haccepted]
    simp [hresponse, hseq]
  · intro hdone
    have htrue : t.accepted = true := by
      rw [haccepted, Bool.or_eq_true, decide_eq_true_iff, Option.isSome_iff_ne_none]
      exact hdone
    obtain ⟨hports, hframe, hresponse⟩ := t.dropFrame_drops (by rw [hport, hn]; exact hp)
    rw [hport] at hports hframe hresponse
    exact ⟨t.dropFrame, by rw [hstep, acceptAfter, if_pos htrue], hframe, hports, hresponse,
      t.setChannelHere_sameElements _, rfl⟩

/-- Settles O34: the turn of a port that is not IDLE is the next unit of its TICK. -/
theorem stepContinuesTheTickInProgress : Obligations.StepContinuesTheTickInProgress := by
  intro s p a rest hin hp hseq
  exact (step_turn hin hp).trans (runSequencer_in_progress hseq)

/-- Settles O36: the turn uses up its input and nothing else. -/
theorem noFrameIsAcceptedBeforeTheResponseIsTaken : Obligations.NoFrameIsAcceptedBeforeTheResponseIsTaken := by
  intro s p a rest hin hp hidle hno
  exact ⟨_, (step_turn hin hp).trans (runSequencer_nothing hidle hno), SameElements.refl s, rfl, rfl⟩

/-- Settles O37: the reset input maps every port to its reset and gives every other element its reset value. -/
theorem resetInputComesBeforeEverything : Obligations.ResetInputComesBeforeEverything := by
  intro s m rest hin
  have hstep : step s = .next (s.withInputs rest).applyReset := by rw [step, nextStep, hin]; rfl
  have hports : ∀ p, (s.withInputs rest).applyReset.portAt p = (s.portAt p).onReset :=
    (s.withInputs rest).applyReset_portAt
  refine ⟨_, hstep, rfl, rfl, rfl, Ring.zero_entry, rfl, rfl, rfl, (s.withInputs rest).applyReset_nports,
    fun p => ?_, fun p => ?_, fun p => ?_, rfl, ?_⟩
  · rw [State.seqAt, hports]; rfl
  · rw [State.responseAt, hports]; rfl
  · rw [State.frameAt, hports]; rfl
  · have hstream : (s.withInputs rest).applyReset.env.stream =
        if s.sel = true then s.env.stream ++ [.selDeassert] else s.env.stream := rfl
    rw [hstream]
    split_ifs
    · rfl
    · exact (List.append_nil _).symm

/-- Every port of the reset state reads as a port after reset. -/
theorem State.reset_portAt (p : Nat) : State.reset.portAt p = Port.reset := by
  simp only [State.portAt, State.reset, List.getElem?_replicate]
  split_ifs <;> rfl

/-- Settles O38: the ports are copies of the reset port, and the rest stands in the definition. -/
theorem resetLeavesEveryElementAtItsValue : Obligations.ResetLeavesEveryElementAtItsValue :=
  ⟨rfl, rfl, rfl, Ring.zero_entry, rfl, rfl, rfl, fun p => congrArg Port.seq (State.reset_portAt p), rfl, rfl⟩

/-- Settles O39: every byte of the packet is half of a zero entry. -/
theorem packetAfterResetIsZero : Obligations.PacketAfterResetIsZero := by
  have hhalves : lo 0 = 0 ∧ hi 0 = 0 := by decide
  have hgeneration : ∀ g, Ring.zero.generationBytes g = List.replicate 12 0 := fun g => by
    simp only [Ring.generationBytes, packetOrder, Ring.zero_entry, hhalves.1, hhalves.2]
    rfl
  show Ring.zero.ser = _
  rw [Ring.ser, hgeneration, hgeneration, hgeneration]
  rfl

end Sys2Proof.Machine
end

section
/-! PROOFS. What every step of the machine changes and keeps (10_state.md R21 to R28, 60_exceptions.md R180, R187, R189). -/

namespace Sys2Proof.Machine

/-! ### Which turns write an element -/

section
variable {s t : State}

/-- RING and CURSOR change by a whole ring write, or RSTCUR clears CURSOR (R31, R57). -/
theorem TurnEffect.ring (h : TurnEffect s t) :
    (t.ring = s.ring ∧ t.cursor = s.cursor) ∨
      (∃ v, t.ring = s.ring.write s.cursor v ∧ t.cursor = satInc s.cursor ∧
        (s.Accepts (.rwrite v) ∨ s.here.seq = .tWrite ∧ v = tickValues s.here.rxb)) ∨
      (s.Accepts .rstcur ∧ t.ring = s.ring ∧ t.cursor = 0) := by
  cases h with
  | answer hshown hans =>
    cases hans with
    | rwrite hacc => exact .inr (.inl ⟨_, rfl, rfl, .inl hacc⟩)
    | rstcur hacc => exact .inr (.inr ⟨hacc, rfl, rfl⟩)
    | illegal | rejected | gatePass | rdpkt | seten => exact .inl ⟨rfl, rfl⟩
  | ringWrite hseq => exact .inr (.inl ⟨_, rfl, rfl, .inr ⟨hseq, rfl⟩⟩)
  | hold | start | select | address | read | deselect => exact .inl ⟨rfl, rfl⟩

/-- LAST_TS changes on a gate-pass of GATE, or of TICK while enabled (R21). -/
theorem TurnEffect.lastTs (h : TurnEffect s t) :
    t.lastTs = s.lastTs ∨ ∃ ts, GatePasses s.env.params s.lastTs ts ∧ t.lastTs = ts ∧
      (s.Accepts (.gate ts) ∨ s.Accepts (.tick ts) ∧ s.enabled = true) := by
  cases h with
  | answer hshown hans =>
    cases hans with
    | gatePass hacc hpass => exact .inr ⟨_, hpass, rfl, .inl hacc⟩
    | illegal | rejected | rwrite | rdpkt | rstcur | seten => exact .inl rfl
  | start hacc hen hpass => exact .inr ⟨_, hpass, rfl, .inr ⟨hacc, hen⟩⟩
  | hold | select | address | read | deselect | ringWrite => exact .inl rfl

/-- ENABLED changes by SETEN only (R22). -/
theorem TurnEffect.enabled (h : TurnEffect s t) : t.enabled = s.enabled ∨ s.Accepts (.seten t.enabled) := by
  cases h with
  | answer hshown hans =>
    cases hans with
    | seten hacc => exact .inr hacc
    | illegal | rejected | gatePass | rwrite | rdpkt | rstcur => exact .inl rfl
  | hold | start | select | address | read | deselect | ringWrite => exact .inl rfl

/-- Only a TICK at T_XPORT with the transport free, or one in a transport phase, touches the transport (R26, R187). -/
theorem TurnEffect.transport (h : TurnEffect s t) :
    (SameTransport s t ∧ t.env.stream = s.env.stream) ∨ (s.here.seq = .tXport ∧ s.xportOwner = none) ∨
      s.here.seq.holdsTransport = true := by
  cases h with
  | answer hshown hans =>
    obtain ⟨-, henv, -, howner, hsel⟩ := hans.leaves
    exact .inl ⟨⟨howner, hsel⟩, congrArg Env.stream henv⟩
  | select hseq hfree => exact .inr (.inl ⟨hseq, hfree⟩)
  | address hseq | read hseq | deselect hseq => exact .inr (.inr (by rw [hseq]; rfl))
  | hold | start | ringWrite => exact .inl ⟨⟨rfl, rfl⟩, rfl⟩

/-- A turn only adds to the record of the transport (log 14). -/
theorem TurnEffect.stream (h : TurnEffect s t) : ∃ ops, t.env.stream = s.env.stream ++ ops := by
  cases h with
  | answer hshown hans =>
    obtain ⟨-, henv, -⟩ := hans.leaves
    exact ⟨[], (congrArg Env.stream henv).trans (List.append_nil _).symm⟩
  | select | address | read | deselect => exact ⟨[_], rfl⟩
  | hold | start | ringWrite => exact ⟨[], (List.append_nil _).symm⟩

/-- A response that a turn sends is one of the four of R79. -/
theorem TurnEffect.response (h : TurnEffect s t) (hport : s.env.port < s.nports) :
    t.responseAt s.env.port = s.responseAt s.env.port ∨
      ∃ f ∈ [[0x00], [0x02], [0x01], 0x00 :: s.ring.ser], t.responseAt s.env.port = some f := by
  have keeps : ∀ {x : Port}, t.portAt s.env.port = x → x.chan.response = s.here.chan.response →
      t.responseAt s.env.port = s.responseAt s.env.port := fun hx hr => by rw [State.responseAt, hx, hr]; rfl
  cases h with
  | hold => exact .inl rfl
  | answer hshown hans => exact .inr ⟨_, hans.frame, by rw [State.responseAt, hans.portAt hport]⟩
  | start => exact .inl (keeps (State.start_dropFrame_portAt _ hport) rfl)
  | select => exact .inl (keeps (State.setSeq_portAt _ _ hport) rfl)
  | address => exact .inl (keeps (State.setSeq_portAt _ _ hport) rfl)
  | read => exact .inl (keeps (State.setRxb_setSeq_portAt (s.logTx _) _ _ hport) rfl)
  | deselect => exact .inl (keeps (State.setSeq_portAt _ _ hport) rfl)
  | ringWrite =>
    have hp := State.respond_setSeq_portAt (s.ringWrite (tickValues s.here.rxb)) false true [] .idle hport
    rw [responseFrame_res] at hp
    exact .inr ⟨[0x02], by simp, congrArg (fun x => x.chan.response) hp⟩

end

/-- Reading the port whose channel was written. -/
theorem State.setChan_portAt_self {s : State} {p : Nat} (c : Channel) (h : p < s.nports) :
    (s.setChan p c).portAt p = { s.portAt p with chan := c } :=
  s.portAt_setPort_self _ h

/-! ### Which steps write an element -/

/-- Settles O42: of the turns only ring writes and RSTCUR write RING or CURSOR, and of the other steps only reset. -/
theorem ringChangesByWholeWritesOnly : Obligations.RingChangesByWholeWritesOnly := by
  intro s t h
  cases step_effect h with
  | none | issuer => exact .inl ⟨rfl, rfl⟩
  | reset hin => exact .inr (.inr (.inr ⟨_, _, hin, Ring.zero_entry, rfl⟩))
  | turn hin hp heff =>
    rcases heff.ring with hsame | ⟨v, hring, hcursor, hwriter⟩ | ⟨⟨f, hshown, hdec⟩, hring, hcursor⟩
    · exact .inl hsame
    · refine .inr (.inl ⟨_, _, _, v, hin, hp, wroteGeneration_of_ring_eq hring, advancedCursor_of_cursor_eq hcursor, ?_⟩)
      rcases hwriter with ⟨f, hshown, hdec⟩ | hwrite
      · exact .inl ⟨hshown.1, f, hshown.2.2, hdec⟩
      · exact .inr hwrite
    · exact .inr (.inr (.inl ⟨_, _, _, f, hin, hp, hshown.1, hshown.2.2, hdec, hring, hcursor⟩))

/-- Settles O43: of the turns only gate-passes write LAST_TS, and of the other steps only reset. -/
theorem onlyAGatePassWritesLastTimestamp : Obligations.OnlyAGatePassWritesLastTimestamp := by
  intro s t h hne
  cases step_effect h with
  | none | issuer => exact absurd rfl hne
  | reset hin => exact .inr ⟨_, _, hin, rfl⟩
  | turn hin hp heff =>
    rcases heff.lastTs with hsame | ⟨ts, hpass, hlast, ⟨f, hshown, hdec⟩ | ⟨⟨f, hshown, hdec⟩, hen⟩⟩
    · exact absurd hsame hne
    · exact .inl ⟨_, _, _, f, ts, hin, hshown.1, hshown.2.2, hpass, hlast, .inl hdec⟩
    · exact .inl ⟨_, _, _, f, ts, hin, hshown.1, hshown.2.2, hpass, hlast, .inr ⟨hdec, hen⟩⟩

/-- Settles O44: of the turns only SETEN's writes ENABLED, and of the other steps only reset. -/
theorem onlySetEnableChangesEnabled : Obligations.OnlySetEnableChangesEnabled := by
  intro s t h hne
  cases step_effect h with
  | none | issuer => exact absurd rfl hne
  | reset hin => exact .inr ⟨_, _, hin, rfl⟩
  | turn hin hp heff =>
    rcases heff.enabled with hsame | ⟨f, hshown, hdec⟩
    · exact absurd hsame hne
    · exact .inl ⟨_, _, _, f, hin, hshown.1, hshown.2.2, hdec⟩

/-- Settles O45: of the turns only those of a TICK in these phases touch the transport, and of the other steps only reset. -/
theorem onlyATickDrivesTheTransport : Obligations.OnlyATickDrivesTheTransport := by
  intro s t h hchange
  have changed : ¬ (SameTransport s t ∧ t.env.stream = s.env.stream) := by
    rintro ⟨⟨howner, hsel⟩, hstream⟩
    rcases hchange with hne | hne | hne
    · exact hne howner
    · exact hne hsel
    · exact hne hstream
  cases step_effect h with
  | none | issuer => exact absurd ⟨⟨rfl, rfl⟩, rfl⟩ changed
  | reset hin => exact .inr ⟨_, _, hin⟩
  | turn hin hp heff =>
    rcases heff.transport with hsame | ⟨hwaits, -⟩ | hholds
    · exact absurd hsame changed
    · exact .inl ⟨_, _, _, hin, .inl hwaits⟩
    · exact .inl ⟨_, _, _, hin, .inr hholds⟩

/-- A step other than reset writes the port of its move only (R9, R189). -/
theorem samePortsBut_of_step {s t : State} {m : Move} {rest : List Input}
    (hin : s.env.inputs = { reset := false, move := m } :: rest) (h : step s = .next t) : SamePortsBut m.port s t := by
  cases step_effect h with
  | none hin' => rw [hin'] at hin; cases hin
  | reset hin' => rw [hin'] at hin; cases hin
  | issuer hin' hm hp hresponse hframe =>
    rw [hin'] at hin
    cases hin
    exact ⟨State.setChan_nports _ _ _, fun q hq => State.portAt_setPort_ne _ _ hq⟩
  | turn hin' hp heff =>
    rw [hin'] at hin
    cases hin
    exact heff.leaves.1

/-- Settles O47: an issuer's move writes one channel, and a turn its own port. -/
theorem aMoveLeavesOtherPortsAlone : Obligations.AMoveLeavesOtherPortsAlone :=
  fun _ _ _ _ hin h => samePortsBut_of_step hin h

/-- Settles O48: an issuer's move writes one channel, which is no element. -/
theorem issuerMovesChangeNoElement : Obligations.IssuerMovesChangeNoElement := by
  intro s t m rest hin hm h
  cases step_effect h with
  | none hin' => rw [hin'] at hin; cases hin
  | reset hin' => rw [hin'] at hin; cases hin
  | issuer => exact ⟨State.setChan_sameElements _ _ _, rfl⟩
  | turn hin' hp heff => rw [hin'] at hin; cases hin; exact absurd rfl (hm _ _)

/-- Settles O49: only a turn sends a response, at its own port, and it is one of the four. -/
theorem everyNewResponseIsOneOfFour : Obligations.EveryNewResponseIsOneOfFour := by
  intro s t p f h hne hf
  cases step_effect h with
  | none => exact absurd rfl hne
  | @reset m rest hin =>
    refine absurd ?_ hne
    rw [State.responseAt, (s.withInputs rest).applyReset_portAt]
    rfl
  | @issuer m rest c hin hm hp hresponse hframe =>
    by_cases hpm : p = m.port
    · subst hpm
      have hc : ((s.withInputs rest).setChan m.port c).responseAt m.port = c.response :=
        congrArg (fun x => x.chan.response) (State.setChan_portAt_self (s := s.withInputs rest) c hp)
      rw [hc] at hne hf
      rcases hresponse with hsame | hnone
      · exact absurd hsame hne
      · rw [hnone] at hf; cases hf
    · exact absurd (congrArg (fun x => x.chan.response) (State.portAt_setPort_ne _ _ hpm)) hne
  | @turn q a rest _ hin hq heff =>
    by_cases hpq : p = q
    · subst hpq
      rcases heff.response hq with hsame | ⟨f', hmem, hf'⟩
      · exact absurd hsame hne
      · obtain rfl : f' = f := Option.some.inj (hf'.symm.trans hf)
        simp only [List.mem_cons, List.not_mem_nil, or_false] at hmem
        rcases hmem with rfl | rfl | rfl | rfl
        exacts [.inl rfl, .inr (.inl rfl), .inr (.inr (.inl rfl)), .inr (.inr (.inr ⟨rfl, rfl⟩))]
    · exact absurd (congrArg (fun x => x.chan.response) (heff.leaves.1.2 p hpq)) hne

/-- Settles O50: no effect writes the parameters or the number of ports. -/
theorem noStepChangesTheParameters : Obligations.NoStepChangesTheParameters := by
  intro s t h
  cases step_effect h with
  | none => exact ⟨rfl, rfl⟩
  | reset => exact ⟨rfl, State.applyReset_nports _⟩
  | issuer => exact ⟨rfl, State.setChan_nports _ _ _⟩
  | turn hin hp heff =>
    obtain ⟨⟨hn, -⟩, hparams, -⟩ := heff.leaves
    exact ⟨hparams, hn⟩

/-! ### Every step completes -/

/-- Every command's unit answers a next state (R10). -/
theorem exec_completes (i : Instr) (s : State) : Completes (exec i s) := by
  cases i with
  | gate ts => exact ⟨_, rfl⟩
  | rwrite v => exact ringUnit_completes (fun s => (s.ringWrite v).respond false false []) s
  | rdpkt => exact ringUnit_completes (fun s => s.respond false false s.ring.ser) s
  | rstcur => exact ringUnit_completes (fun s => (s.setCursor 0).respond false false []) s
  | seten e => exact ⟨_, rfl⟩
  | tick ts =>
    by_cases hseq : s.here.seq = .tWrite
    · rw [execTick_tWrite ts hseq]
      exact ringUnit_completes _ s
    · obtain ⟨t, ht, -⟩ := execTick_before_write ts hseq
      exact ⟨t, ht⟩

/-- Accepting keeps an outcome a next state. -/
theorem acceptAfter_completes {o : Result} (h : Completes o) : Completes (acceptAfter o) := by
  obtain ⟨t, rfl⟩ := h
  exact ⟨_, rfl⟩

/-- Every turn answers a next state. -/
theorem runSequencer_completes (s : State) : Completes (runSequencer s) := by
  by_cases hidle : s.here.seq = .idle
  · by_cases hno : s.here.chan.response ≠ none ∨ s.here.chan.frame = none
    · exact ⟨s, runSequencer_nothing hidle hno⟩
    · rw [not_or, not_not] at hno
      obtain ⟨f, hf⟩ := Option.ne_none_iff_exists'.1 hno.2
      rw [runSequencer_shows ⟨hidle, hno.1, hf⟩, runFrame]
      split
      · exact acceptAfter_completes (exec_completes _ s)
      · exact acceptAfter_completes ⟨_, rfl⟩
  · rw [runSequencer_in_progress hidle]
    exact exec_completes _ s

/-- Settles O51: reset, an issuer's move and a turn each answer a next state. -/
theorem noStepStopsAtAnExistingPort : Obligations.NoStepStopsAtAnExistingPort := by
  intro s hexists
  unfold step nextStep
  split
  · exact ⟨s, rfl⟩
  · next i rest hin =>
    unfold applyInput
    split
    · exact ⟨_, rfl⟩
    · next hr =>
      have hp : i.move.port < s.nports := (hexists i rest hin).resolve_left (by rw [hr]; decide)
      rw [State.withInputs_nports, if_pos hp]
      cases i.move with
      | present p f => exact ⟨_, rfl⟩
      | withdraw p => exact ⟨_, rfl⟩
      | take p => exact ⟨_, rfl⟩
      | run p a => exact runSequencer_completes _

/-! ### The invariant -/

/-- Settles O40: every port of the reset state is an idle reset port, and the threshold is a 32-bit number. -/
theorem invariantHoldsAfterReset : Obligations.InvariantHoldsAfterReset := by
  have hseq : ∀ p, State.reset.seqAt p = .idle := fun p => congrArg Port.seq (State.reset_portAt p)
  refine ⟨⟨by decide, by decide, Config.gateThreshold.isLt⟩, by decide, Nat.two_pow_pos _, fun p _ => ?_, rfl, rfl, nofun,
    fun p _ => ?_, fun p _ hne => absurd (hseq p) hne⟩
  · rw [State.tslAt, State.reset_portAt]
    exact Nat.two_pow_pos _
  · rw [hseq]
    exact ⟨nofun, nofun⟩

/-- Settles O46: both ports are the owner, and SEL is asserted while there is one. -/
theorem transportHasAtMostOneOwner : Obligations.TransportHasAtMostOneOwner := by
  rintro s p q ⟨-, -, -, -, -, hsel, -, hholds, -⟩ hp hq hpt hqt
  have hpo : s.xportOwner = some p := (hholds p hp).1 hpt
  have hqo : s.xportOwner = some q := (hholds q hq).1 hqt
  exact ⟨Option.some.inj (hpo.symm.trans hqo), by rw [hsel, hpo]; rfl⟩

section
variable {s t : State} {p : Nat}

/-- The invariant after an update of one port and of elements: what it asks of that port and of the elements. -/
theorem State.Inv.of_port (hs : s.Inv) (hp : p < s.nports) (hports : SamePortsBut p s t)
    (hparams : t.env.params = s.env.params) (hlast : t.lastTs < 2 ^ s.env.params.tsW)
    (htsl : t.tslAt p < 2 ^ s.env.params.tsW) (hlock : t.lock = s.lock) (hsel : t.sel = t.xportOwner.isSome)
    (hholds : (t.seqAt p).holdsTransport = true ↔ t.xportOwner = some p)
    (hothers : ∀ q, q ≠ p → (t.xportOwner = some q ↔ s.xportOwner = some q))
    (hresponse : t.seqAt p ≠ .idle → t.responseAt p = none) : t.Inv := by
  obtain ⟨hvalid, hone, -, htsls, hfree, -, howner, hholdss, hresponses⟩ := hs
  obtain ⟨hn, hsame⟩ := hports
  unfold State.Inv
  rw [hparams, hn]
  refine ⟨hvalid, hone, hlast, fun q hq => ?_, hlock.trans hfree, hsel, fun q hq => ?_, fun q hq => ?_, fun q hq => ?_⟩
  · by_cases hqp : q = p
    · exact hqp ▸ htsl
    · rw [State.tslAt, hsame q hqp]; exact htsls q hq
  · by_cases hqp : q = p
    · exact hqp ▸ hp
    · exact howner q ((hothers q hqp).1 hq)
  · by_cases hqp : q = p
    · exact hqp ▸ hholds
    · rw [State.seqAt, hsame q hqp, hothers q hqp]; exact hholdss q hq
  · by_cases hqp : q = p
    · exact hqp ▸ hresponse
    · rw [State.seqAt, State.responseAt, hsame q hqp]; exact hresponses q hq

/-- The same where the transport is left alone, so that the port stays as far from it as it was. -/
theorem State.Inv.of_port_sameTransport (hs : s.Inv) (hp : p < s.nports) (hports : SamePortsBut p s t)
    (hparams : t.env.params = s.env.params) (hlast : t.lastTs < 2 ^ s.env.params.tsW)
    (htsl : t.tslAt p < 2 ^ s.env.params.tsW) (hlock : t.lock = s.lock) (htransport : SameTransport s t)
    (hholds : (t.seqAt p).holdsTransport = (s.seqAt p).holdsTransport)
    (hresponse : t.seqAt p ≠ .idle → t.responseAt p = none) : t.Inv := by
  obtain ⟨howner, hsel⟩ := htransport
  obtain ⟨-, -, -, -, -, hsels, -, hholdss, -⟩ := id hs
  refine hs.of_port hp hports hparams hlast htsl hlock (by rw [hsel, howner, hsels]) ?_ (fun q _ => by rw [howner])
    hresponse
  rw [hholds, howner]
  exact hholdss p hp

end

/-- A command that the decoder gives is well-formed, so its timestamp fits TS_W bits (R74). -/
theorem State.Accepts.wellFormed {s : State} {i : Instr} (h : s.Accepts i) : i.wellFormed s.env.params.tsW = true := by
  obtain ⟨f, -, hdec⟩ := h
  exact (encodeOfDecodeIsTheFrame _ f i hdec).2

/-- What an answer's command stores in LAST_TS fits TS_W bits. -/
theorem Answer.lastTs_lt {s u : State} {ill res : Bool} {d : List Byte} (h : Answer s u ill res d)
    (hlast : s.lastTs < 2 ^ s.env.params.tsW) : u.lastTs < 2 ^ s.env.params.tsW := by
  cases h with
  | gatePass hacc hpass => exact of_decide_eq_true hacc.wellFormed
  | illegal | rejected | rwrite | rdpkt | rstcur | seten => exact hlast

/-- Every turn keeps the invariant. -/
theorem State.Inv.turn {s t : State} (hs : s.Inv) (hport : s.env.port < s.nports) (h : TurnEffect s t) : t.Inv := by
  obtain ⟨-, -, hlast, htsls, -, -, -, hholds, hresponses⟩ := id hs
  obtain ⟨hports, hparams, -, -, hlock⟩ := h.leaves
  have htsl : s.here.tsl < 2 ^ s.env.params.tsW := htsls _ hport
  have hresponse : s.here.seq ≠ .idle → s.here.chan.response = none := hresponses _ hport
  have hhere : s.seqAt s.env.port = s.here.seq := rfl
  cases h with
  | hold => exact hs
  | @answer f u ill res d hshown hans =>
    have hp := hans.portAt hport
    obtain ⟨-, -, -, howner, hsel⟩ := hans.leaves
    have hidle : (u.respond ill res d).dropFrame.seqAt s.env.port = .idle := (congrArg Port.seq hp).trans hshown.1
    refine hs.of_port_sameTransport hport hports hparams (hans.lastTs_lt hlast) ?_ hlock ⟨howner, hsel⟩ ?_
      fun hne => absurd hidle hne
    · rw [State.tslAt, hp]; exact htsl
    · rw [hidle, hhere, hshown.1]
  | @start ts hacc hen hpass =>
    have hp := State.start_dropFrame_portAt ts hport
    have hts : ts < 2 ^ s.env.params.tsW := of_decide_eq_true hacc.wellFormed
    obtain ⟨f, hshown, -⟩ := hacc
    refine hs.of_port_sameTransport hport hports hparams hts ?_ hlock ⟨rfl, rfl⟩ ?_ fun _ => ?_
    · rw [State.tslAt, hp]; exact hts
    · rw [State.seqAt, hp, hhere, hshown.1]; rfl
    · rw [State.responseAt, hp]; exact hshown.2.1
  | select hseq hfree =>
    have hp := State.setSeq_portAt ((s.takeTransport s.env.port).logTx .selAssert) .tAddr hport
    refine hs.of_port hport hports hparams hlast ?_ hlock rfl ?_ (fun q hq => ?_) fun _ => ?_
    · exact (congrArg Port.tsl hp).trans_lt htsl
    · exact iff_of_true (congrArg (Phase.holdsTransport ∘ Port.seq) hp) rfl
    · rw [hfree]; exact iff_of_false (fun h => hq (Option.some.inj h).symm) nofun
    · exact (congrArg (fun x => x.chan.response) hp).trans (hresponse (by rw [hseq]; decide))
  | address hseq =>
    have hp := State.setSeq_portAt (s.logTx (.write [s.env.params.gyroAddrByte])) .tRead hport
    refine hs.of_port_sameTransport hport hports hparams hlast ?_ hlock ⟨rfl, rfl⟩ ?_ fun _ => ?_
    · exact (congrArg Port.tsl hp).trans_lt htsl
    · rw [hhere, hseq]; exact congrArg (Phase.holdsTransport ∘ Port.seq) hp
    · exact (congrArg (fun x => x.chan.response) hp).trans (hresponse (by rw [hseq]; decide))
  | @read r hseq =>
    have hp := State.setRxb_setSeq_portAt (s.logTx (.read Config.xferLen r)) r .tDesel hport
    refine hs.of_port_sameTransport hport hports hparams hlast ?_ hlock ⟨rfl, rfl⟩ ?_ fun _ => ?_
    · exact (congrArg Port.tsl hp).trans_lt htsl
    · rw [hhere, hseq]; exact congrArg (Phase.holdsTransport ∘ Port.seq) hp
    · exact (congrArg (fun x => x.chan.response) hp).trans (hresponse (by rw [hseq]; decide))
  | deselect hseq =>
    have hp := State.setSeq_portAt (s.releaseTransport.logTx .selDeassert) .tWrite hport
    have howner : s.xportOwner = some s.env.port := (hholds _ hport).1 (by rw [hhere, hseq]; rfl)
    refine hs.of_port hport hports hparams hlast ?_ hlock rfl ?_ (fun q hq => ?_) fun _ => ?_
    · exact (congrArg Port.tsl hp).trans_lt htsl
    · exact iff_of_false (fun h => nomatch (congrArg (Phase.holdsTransport ∘ Port.seq) hp).symm.trans h) nofun
    · rw [howner]; exact iff_of_false nofun (fun h => hq (Option.some.inj h).symm)
    · exact (congrArg (fun x => x.chan.response) hp).trans (hresponse (by rw [hseq]; decide))
  | ringWrite hseq =>
    have hp := State.respond_setSeq_portAt (s.ringWrite (tickValues s.here.rxb)) false true [] .idle hport
    refine hs.of_port_sameTransport hport hports hparams hlast ?_ hlock ⟨rfl, rfl⟩ ?_
      fun hne => absurd (congrArg Port.seq hp) hne
    · exact (congrArg Port.tsl hp).trans_lt htsl
    · rw [hhere, hseq]; exact congrArg (Phase.holdsTransport ∘ Port.seq) hp

/-- An issuer's move keeps the invariant: it can only take a response away. -/
theorem State.Inv.setChan {s : State} {p : Nat} {c : Channel} (hs : s.Inv) (hp : p < s.nports)
    (hc : c.response = s.responseAt p ∨ c.response = none) : (s.setChan p c).Inv := by
  obtain ⟨-, -, hlast, htsls, -, -, -, -, hresponses⟩ := id hs
  have hport := State.setChan_portAt_self c hp
  have hseq : (s.setChan p c).seqAt p = s.seqAt p := (congrArg Port.seq hport :)
  refine hs.of_port_sameTransport hp ⟨s.setChan_nports p c, fun q hq => s.portAt_setPort_ne _ hq⟩ rfl hlast ?_ rfl
    ⟨rfl, rfl⟩ (by rw [hseq]) fun hne => ?_
  · exact (congrArg Port.tsl hport).trans_lt (htsls p hp)
  · rw [State.responseAt, hport]
    exact hc.elim (fun h => h.trans (hresponses p hp (hseq ▸ hne))) id

/-- The reset input makes the invariant anew, for any parameters in range and any number of ports. -/
theorem State.Inv.applyReset {s : State} (hs : s.Inv) : s.applyReset.Inv := by
  obtain ⟨hvalid, hone, -⟩ := hs
  have hseq : ∀ p, s.applyReset.seqAt p = .idle := fun p => congrArg Port.seq (s.applyReset_portAt p)
  refine ⟨hvalid, s.applyReset_nports.symm ▸ hone, Nat.two_pow_pos _, fun p _ => ?_, rfl, rfl, nofun, fun p _ => ?_,
    fun p _ hne => absurd (hseq p) hne⟩
  · rw [State.tslAt, s.applyReset_portAt]
    exact Nat.two_pow_pos _
  · rw [hseq]
    exact ⟨nofun, nofun⟩

/-- Settles O41: each effect of a step keeps the invariant. -/
theorem everyStepKeepsTheInvariant : Obligations.EveryStepKeepsTheInvariant := by
  intro s t hs h
  cases step_effect h with
  | none => exact hs
  | @reset m rest hin => exact State.Inv.applyReset (s := s.withInputs rest) hs
  | @issuer m rest c hin hm hp hresponse hframe => exact State.Inv.setChan (s := s.withInputs rest) hs hp hresponse
  | @turn p a rest _ hin hp heff => exact State.Inv.turn (s := (s.withInputs rest).turn p a) hs hp heff

end Sys2Proof.Machine
end

section
/-! PROOFS. A TICK from its gate-pass to its answer (43_acquisition.md R151): its six turns, and what other ports do between. -/

namespace Sys2Proof.Machine

/-! ### The six turns -/

/-- What a turn of port p leaves: the port is x, every other port is as before, the input is used up, and these operations
are recorded. -/
def TurnLeaves (p : Nat) (rest : List Input) (ops : List TxOp) (x : Port) (s t : State) : Prop :=
  SamePortsBut p s t ∧ t.portAt p = x ∧ t.env.params = s.env.params ∧ t.env.inputs = rest ∧
    t.env.stream = s.env.stream ++ ops

section
variable {s : State} {p : Nat} {a : Option TxAnswer} {rest : List Input}

/-- The turn of a port in progress runs the TICK unit that the port stands at. -/
theorem step_of_unit {t : State} (hin : s.env.inputs = .turn p a :: rest) (hp : p < s.nports) (hseq : s.seqAt p ≠ .idle)
    (h : exec (.tick (s.tslAt p)) ((s.withInputs rest).turn p a) = .next t) : step s = .next t :=
  (stepContinuesTheTickInProgress s p a rest hin hp hseq).trans h

/-- The turn that accepts a TICK frame on an enabled gate-pass (R152). -/
theorem step_tick_start {f : Frame} {ts : Nat} (hin : s.env.inputs = .turn p a :: rest) (hp : p < s.nports)
    (hidle : s.seqAt p = .idle) (hr : s.responseAt p = none) (hf : s.frameAt p = some f)
    (hdec : decode s.env.params.tsW f = .ok (.tick ts)) (hen : s.enabled = true)
    (hpass : GatePasses s.env.params s.lastTs ts) :
    ∃ t, step s = .next t ∧
      TurnLeaves p rest []
        { s.portAt p with seq := .tXport, tsl := ts, chan := { frame := none, response := none } } s t ∧
      t.lastTs = ts ∧ t.enabled = s.enabled ∧ t.cursor = s.cursor ∧ t.ring = s.ring ∧ t.lock = s.lock ∧
      SameTransport s t := by
  have hshown : ((s.withInputs rest).turn p a).Shows f := ⟨hidle, hr, hf⟩
  have hlegal : runFrame f ((s.withInputs rest).turn p a) =
      acceptAfter (exec (.tick ts) ((s.withInputs rest).turn p a)) := runFrame_legal hdec
  have hstarts := execTick_starts (s := (s.withInputs rest).turn p a) ts hidle hen hpass
  have heff : TurnEffect ((s.withInputs rest).turn p a) _ := .start ⟨f, hshown, hdec⟩ hen hpass
  have hport := State.start_dropFrame_portAt (s := (s.withInputs rest).turn p a) ts hp
  have hchan : ({ (s.portAt p).chan with frame := none } : Channel) = { frame := none, response := none } :=
    congrArg (Channel.mk none) hr
  refine ⟨_, ?_, ⟨heff.leaves.1, hport.trans ?_, rfl, rfl, (List.append_nil _).symm⟩, rfl, rfl, rfl, rfl, rfl, ⟨rfl, rfl⟩⟩
  · rw [step_turn hin hp, runSequencer_shows hshown, hlegal, hstarts]
    exact acceptAfter_start (s := (s.withInputs rest).turn p a) ts hp
  · rw [← hchan]
    rfl

/-- The turn at T_XPORT with the transport free (R153). -/
theorem step_tick_select (hin : s.env.inputs = .turn p a :: rest) (hp : p < s.nports) (hseq : s.seqAt p = .tXport)
    (hfree : s.xportOwner = none) :
    ∃ t, step s = .next t ∧ TurnLeaves p rest [.selAssert] { s.portAt p with seq := .tAddr } s t ∧
      SameScalarsAndRing s t := by
  have heff : TurnEffect ((s.withInputs rest).turn p a) _ := .select hseq hfree
  have hport := State.setSeq_portAt ((((s.withInputs rest).turn p a).takeTransport p).logTx .selAssert) .tAddr hp
  refine ⟨_, step_of_unit hin hp (by rw [hseq]; decide)
      ((execTick_tXport (s := (s.withInputs rest).turn p a) _ hseq).trans (unitT1_takes hfree)),
    ⟨heff.leaves.1, hport, rfl, rfl, rfl⟩, rfl, rfl, rfl, rfl, rfl⟩

/-- The turn at T_ADDR that carries the transport's completion (R154). -/
theorem step_tick_address (hin : s.env.inputs = .turn p (some .taken) :: rest) (hp : p < s.nports)
    (hseq : s.seqAt p = .tAddr) :
    ∃ t, step s = .next t ∧
      TurnLeaves p rest [.write [s.env.params.gyroAddrByte]] { s.portAt p with seq := .tRead } s t ∧
      SameScalarsAndRing s t := by
  have heff : TurnEffect ((s.withInputs rest).turn p (some .taken)) _ := .address hseq rfl
  have hport := State.setSeq_portAt
    (((s.withInputs rest).turn p (some .taken)).logTx (.write [s.env.params.gyroAddrByte])) .tRead hp
  refine ⟨_, step_of_unit hin hp (by rw [hseq]; decide)
      ((execTick_tAddr (s := (s.withInputs rest).turn p (some .taken)) _ hseq).trans (unitT2_writes rfl)),
    ⟨heff.leaves.1, hport, rfl, rfl, rfl⟩, rfl, rfl, rfl, rfl, rfl⟩

/-- The turn at T_READ that carries the transport's bytes (R154). -/
theorem step_tick_read {r : XferBytes} (hin : s.env.inputs = .turn p (some (.bytes r)) :: rest) (hp : p < s.nports)
    (hseq : s.seqAt p = .tRead) :
    ∃ t, step s = .next t ∧ TurnLeaves p rest [.read 12 r] { s.portAt p with seq := .tDesel, rxb := r } s t ∧
      SameScalarsAndRing s t := by
  have heff : TurnEffect ((s.withInputs rest).turn p (some (.bytes r))) _ := .read hseq rfl
  have hport := State.setRxb_setSeq_portAt
    (((s.withInputs rest).turn p (some (.bytes r))).logTx (.read Config.xferLen r)) r .tDesel hp
  refine ⟨_, step_of_unit hin hp (by rw [hseq]; decide)
      ((execTick_tRead (s := (s.withInputs rest).turn p (some (.bytes r))) _ hseq).trans (unitT3_reads rfl)),
    ⟨heff.leaves.1, hport, rfl, rfl, rfl⟩, rfl, rfl, rfl, rfl, rfl⟩

/-- The turn at T_DESEL (R155). -/
theorem step_tick_deselect (hin : s.env.inputs = .turn p a :: rest) (hp : p < s.nports) (hseq : s.seqAt p = .tDesel) :
    ∃ t, step s = .next t ∧ TurnLeaves p rest [.selDeassert] { s.portAt p with seq := .tWrite } s t ∧
      SameScalarsAndRing s t ∧ t.xportOwner = none ∧ t.sel = false := by
  have heff : TurnEffect ((s.withInputs rest).turn p a) _ := .deselect hseq
  have hport := State.setSeq_portAt (((s.withInputs rest).turn p a).releaseTransport.logTx .selDeassert) .tWrite hp
  refine ⟨_, step_of_unit hin hp (by rw [hseq]; decide) (execTick_tDesel _ hseq),
    ⟨heff.leaves.1, hport, rfl, rfl, rfl⟩, ⟨rfl, rfl, rfl, rfl, rfl⟩, rfl, rfl⟩

/-- The turn at T_WRITE with LOCK free (R156). -/
theorem step_tick_write (hin : s.env.inputs = .turn p a :: rest) (hp : p < s.nports) (hseq : s.seqAt p = .tWrite)
    (hl : s.lock = false) :
    ∃ t, step s = .next t ∧
      TurnLeaves p rest []
        { s.portAt p with seq := .idle, chan := { (s.portAt p).chan with response := some [0x02] } } s t ∧
      WroteGeneration (tickValues (s.rxbAt p)) s t ∧ AdvancedCursor s t ∧ t.lastTs = s.lastTs ∧
      t.enabled = s.enabled ∧ t.lock = s.lock ∧ SameTransport s t := by
  have heff : TurnEffect ((s.withInputs rest).turn p a) _ := .ringWrite hseq
  have hport := State.respond_setSeq_portAt
    (((s.withInputs rest).turn p a).ringWrite (tickValues (s.rxbAt p))) false true [] .idle hp
  rw [responseFrame_res] at hport
  exact ⟨_, step_of_unit hin hp (by rw [hseq]; decide)
      ((execTick_tWrite (s := (s.withInputs rest).turn p a) _ hseq).trans (unitT5_ends hl)),
    ⟨heff.leaves.1, hport, rfl, rfl, (List.append_nil _).symm⟩, wroteGeneration_of_ring_eq rfl,
    advancedCursor_of_cursor_eq rfl, rfl, rfl, rfl, ⟨rfl, rfl⟩⟩

end

/-! ### Steps one after the other -/

/-- A run of steps goes on from the state its first step left. -/
theorem runSteps_succ {s t : State} (k : Nat) (h : step s = .next t) : runSteps (k + 1) s = runSteps k t := by
  simp only [runSteps, h]

/-- Two runs of steps, the second from where the first ended. -/
theorem runSteps_add {j k : Nat} {s t u : State} (hst : runSteps j s = .next t) (htu : runSteps k t = .next u) :
    runSteps (j + k) s = .next u := by
  induction j generalizing s with
  | zero => cases hst; rwa [Nat.zero_add]
  | succ j ih =>
    rw [Nat.succ_add]
    unfold runSteps at hst ⊢
    split at hst
    · exact ih hst
    · cases hst
    · cases hst

/-- A ring write is one from any state with the same RING and CURSOR. -/
theorem WroteGeneration.of_same {v : AxisValues} {s s' t : State} (h : WroteGeneration v s' t) (hr : s'.ring = s.ring)
    (hc : s'.cursor = s.cursor) : WroteGeneration v s t := fun a g => by rw [h a g, hr, hc]

/-- Settles O28: the six turns one after the other; each leaves the other ports alone and makes its part of the record. -/
theorem tickCompletesInSixTurns : Obligations.TickCompletesInSixTurns := by
  intro s p ts f r rest hp hidle hr hf hdec hen hpass hl hfree hin
  obtain ⟨s1, h1, ⟨hports1, hx1, hP1, hin1, hops1⟩, hts1, hen1, hc1, hring1, hl1, howner1, -⟩ :=
    step_tick_start hin hp hidle hr hf hdec hen hpass
  obtain ⟨s2, h2, ⟨hports2, hx2, hP2, hin2, hops2⟩, hts2, hen2, hc2, hring2, hl2⟩ :=
    step_tick_select hin1 (hports1.1 ▸ hp) (congrArg Port.seq hx1) (howner1.trans hfree)
  have hsame2 := hports1.trans hports2
  obtain ⟨s3, h3, ⟨hports3, hx3, hP3, hin3, hops3⟩, hts3, hen3, hc3, hring3, hl3⟩ :=
    step_tick_address hin2 (hsame2.1 ▸ hp) (congrArg Port.seq hx2)
  have hsame3 := hsame2.trans hports3
  obtain ⟨s4, h4, ⟨hports4, hx4, hP4, hin4, hops4⟩, hts4, hen4, hc4, hring4, hl4⟩ :=
    step_tick_read hin3 (hsame3.1 ▸ hp) (congrArg Port.seq hx3)
  have hsame4 := hsame3.trans hports4
  obtain ⟨s5, h5, ⟨hports5, hx5, hP5, hin5, hops5⟩, ⟨hts5, hen5, hc5, hring5, hl5⟩, howner5, hsel5⟩ :=
    step_tick_deselect hin4 (hsame4.1 ▸ hp) (congrArg Port.seq hx4)
  have hsame5 := hsame4.trans hports5
  have hfree5 : s5.lock = false := by rw [hl5, hl4, hl3, hl2, hl1, hl]
  obtain ⟨s6, h6, ⟨hports6, hx6, hP6, hin6, hops6⟩, hwrote, hadvanced, hts6, hen6, hl6, howner6, hsel6⟩ :=
    step_tick_write hin5 (hsame5.1 ▸ hp) (congrArg Port.seq hx5) hfree5
  have hcursor : s5.cursor = s.cursor := by rw [hc5, hc4, hc3, hc2, hc1]
  have hring : s5.ring = s.ring := by rw [hring5, hring4, hring3, hring2, hring1]
  have hrxb : s5.rxbAt p = r := by rw [State.rxbAt, hx5, hx4]
  have hx : s6.portAt p = { seq := .idle, tsl := ts, rxb := r, chan := { frame := none, response := some [0x02] } } := by
    rw [hx6, hx5, hx4, hx3, hx2, hx1]
  rw [hrxb] at hwrote
  rw [AdvancedCursor, hcursor] at hadvanced
  refine ⟨s6, ?_, ?_, ?_, hwrote.of_same hring hcursor, hadvanced, ?_, howner6.trans howner5, hsel6.trans hsel5,
    hsame5.trans hports6, congrArg Port.seq hx, congrArg (fun x => x.chan.response) hx,
    congrArg (fun x => x.chan.frame) hx, congrArg Port.tsl hx, congrArg Port.rxb hx, ?_, hin6, ?_⟩
  · rw [runSteps_succ 5 h1, runSteps_succ 4 h2, runSteps_succ 3 h3, runSteps_succ 2 h4, runSteps_succ 1 h5,
      runSteps_succ 0 h6, runSteps]
  · rw [hts6, hts5, hts4, hts3, hts2, hts1]
  · rw [hen6, hen5, hen4, hen3, hen2, hen1, hen]
  · rw [hl6, hfree5]
  · rw [hP6, hP5, hP4, hP3, hP2, hP1]
  · simp only [hops6, hops5, hops4, hops3, hops2, hops1, hP2, hP1, List.append_assoc, List.cons_append, List.nil_append,
      List.append_nil]

/-! ### Moves at other ports -/

/-- A move at another port completes, keeps the invariant and leaves this port, the parameters and the number of ports. -/
theorem step_elsewhere {s : State} {p : Nat} {i : Input} {l : List Input} (hs : s.Inv) (hi : i.elsewhere p s.nports)
    (hin : s.env.inputs = i :: l) :
    ∃ t, step s = .next t ∧ t.Inv ∧ t.env.inputs = l ∧ SamePortsBut i.move.port s t ∧ t.env.params = s.env.params ∧
      ((∀ q a, i.move ≠ .run q a) → t.xportOwner = s.xportOwner ∧ t.env.stream = s.env.stream) ∧
      (s.xportOwner = some p → t.env.stream = s.env.stream) ∧ ∃ ops, t.env.stream = s.env.stream ++ ops := by
  obtain ⟨rst, m⟩ := i
  obtain ⟨hreset, hne, hlt⟩ := hi
  obtain rfl : rst = false := hreset
  obtain ⟨t, hstep⟩ : Completes (step s) := noStepStopsAtAnExistingPort s fun j rest hj => by
    rw [hin] at hj
    cases hj
    exact .inr hlt
  refine ⟨t, hstep, everyStepKeepsTheInvariant s t hs hstep, and_left_comm.1 ⟨samePortsBut_of_step hin hstep, ?_⟩⟩
  cases step_effect hstep with
  | none hin' => rw [hin'] at hin; cases hin
  | reset hin' => rw [hin'] at hin; cases hin
  | issuer hin' =>
    rw [hin'] at hin
    cases hin
    exact ⟨rfl, rfl, fun _ => ⟨rfl, rfl⟩, fun _ => rfl, [], (List.append_nil _).symm⟩
  | turn hin' hq heff =>
    rw [hin'] at hin
    cases hin
    obtain ⟨-, hparams, hinputs, -⟩ := heff.leaves
    refine ⟨hinputs, hparams, fun hm => absurd rfl (hm _ _), fun howner => ?_, heff.stream⟩
    rcases heff.transport with ⟨-, hstream⟩ | ⟨-, hfree⟩ | hholds
    · exact hstream
    · exact absurd (howner.symm.trans hfree) nofun
    · obtain ⟨-, -, -, -, -, -, -, hholder, -⟩ := hs
      exact absurd (Option.some.inj (((hholder _ hq).1 hholds).symm.trans howner)) hne

/-- Between two turns of its TICK: the invariant holds, port p is x, and these operations are recorded. -/
def StandsBetween (p n : Nat) (P : Params) (x : Port) (ops : List TxOp) (s : State) : Prop :=
  s.Inv ∧ s.nports = n ∧ s.env.params = P ∧ s.portAt p = x ∧ s.env.stream = ops

/-- A turn of port p leads from one such state to the next. -/
theorem StandsBetween.turn {p n : Nat} {P : Params} {x y : Port} {ops more : List TxOp} {rest : List Input} {s t : State}
    (h : StandsBetween p n P x ops s) (hstep : step s = .next t) (ht : TurnLeaves p rest more y s t) :
    StandsBetween p n P y (ops ++ more) t := by
  obtain ⟨hinv, hn, hP, -, hops⟩ := h
  obtain ⟨⟨hn', -⟩, hy, hP', -, hops'⟩ := ht
  exact ⟨everyStepKeepsTheInvariant s t hinv hstep, hn'.trans hn, hP'.trans hP, hy, by rw [hops', hops]⟩

section
variable {p n : Nat} {P : Params} {x : Port} {ops : List TxOp} {rest : List Input} {s t : State}

theorem StandsBetween.lt (h : StandsBetween p n P x ops s) (hp : p < n) : p < s.nports := by
  obtain ⟨-, hn, -⟩ := h
  rwa [hn]

theorem StandsBetween.params (h : StandsBetween p n P x ops s) : s.env.params = P := by
  obtain ⟨-, -, hP, -⟩ := h
  exact hP

theorem StandsBetween.portAt (h : StandsBetween p n P x ops s) : s.portAt p = x := by
  obtain ⟨-, -, -, hx, -⟩ := h
  exact hx

theorem TurnLeaves.inputs (h : TurnLeaves p rest ops x s t) : t.env.inputs = rest := by
  obtain ⟨-, -, -, hin, -⟩ := h
  exact hin

end

/-- Moves that each complete and keep Q complete together and keep Q. -/
theorem runSteps_moves {Q : State → Prop} (ms : List Input) {rest : List Input} {s : State}
    (hin : s.env.inputs = ms ++ rest) (hs : Q s)
    (hkeep : ∀ i ∈ ms, ∀ (u : State) l, u.env.inputs = i :: l → Q u → ∃ t, step u = .next t ∧ t.env.inputs = l ∧ Q t) :
    ∃ t, runSteps ms.length s = .next t ∧ t.env.inputs = rest ∧ Q t := by
  induction ms generalizing s with
  | nil => exact ⟨s, rfl, hin, hs⟩
  | cons i ms ih =>
    obtain ⟨u, hstep, hin', hu⟩ := hkeep i List.mem_cons_self s _ hin hs
    obtain ⟨t, hrun, ht⟩ := ih hin' hu fun j hj => hkeep j (List.mem_cons_of_mem i hj)
    exact ⟨t, (runSteps_succ _ hstep).trans hrun, ht⟩

section
variable {p n : Nat} {P : Params} {x : Port} {ops : List TxOp} {ms rest : List Input} {s : State}

/-- Issuers' moves at other ports keep a TICK and a free transport where they are. -/
theorem StandsBetween.issuers (h : StandsBetween p n P x ops s) (hfree : s.xportOwner = none)
    (hin : s.env.inputs = ms ++ rest) (hms : ∀ i ∈ ms, i.elsewhere p n) (hissuer : ∀ i ∈ ms, ∀ q a, i.move ≠ .run q a) :
    ∃ t, runSteps ms.length s = .next t ∧ t.env.inputs = rest ∧ StandsBetween p n P x ops t ∧ t.xportOwner = none := by
  refine runSteps_moves (Q := fun u => StandsBetween p n P x ops u ∧ u.xportOwner = none) ms hin ⟨h, hfree⟩ ?_
  rintro i hi u l hl ⟨⟨hinv, hn, hP, hx, hops⟩, hfree'⟩
  obtain ⟨t, hstep, hinv', hl', hports, hP', hsame, -⟩ := step_elsewhere hinv (hn ▸ hms i hi) hl
  obtain ⟨howner, hstream⟩ := hsame (hissuer i hi)
  exact ⟨t, hstep, hl', ⟨hinv', hports.1.trans hn, hP'.trans hP, (hports.2 p (hms i hi).2.1.symm).trans hx,
    hstream.trans hops⟩, howner.trans hfree'⟩

/-- Any moves at other ports keep a TICK that owns the transport where it is, and record nothing. -/
theorem StandsBetween.holding (h : StandsBetween p n P x ops s) (hp : p < n) (hx : x.seq.holdsTransport = true)
    (hin : s.env.inputs = ms ++ rest) (hms : ∀ i ∈ ms, i.elsewhere p n) :
    ∃ t, runSteps ms.length s = .next t ∧ t.env.inputs = rest ∧ StandsBetween p n P x ops t := by
  refine runSteps_moves (Q := StandsBetween p n P x ops) ms hin h ?_
  rintro i hi u l hl ⟨hinv, hn, hP, hxu, hops⟩
  obtain ⟨t, hstep, hinv', hl', hports, hP', -, hstream, -⟩ := step_elsewhere hinv (hn ▸ hms i hi) hl
  obtain ⟨-, -, -, -, -, -, -, hholder, -⟩ := hinv
  have howner : u.xportOwner = some p := (hholder p (hn ▸ hp)).1 (by rw [State.seqAt, hxu]; exact hx)
  exact ⟨t, hstep, hl', hinv', hports.1.trans hn, hP'.trans hP, (hports.2 p (hms i hi).2.1.symm).trans hxu,
    (hstream howner).trans hops⟩

/-- Any moves at other ports keep a TICK where it is. -/
theorem StandsBetween.anyMoves (h : StandsBetween p n P x ops s) (hin : s.env.inputs = ms ++ rest)
    (hms : ∀ i ∈ ms, i.elsewhere p n) :
    ∃ t, runSteps ms.length s = .next t ∧ t.env.inputs = rest ∧ ∃ later, StandsBetween p n P x (ops ++ later) t := by
  refine runSteps_moves (Q := fun u => ∃ later, StandsBetween p n P x (ops ++ later) u) ms hin
    ⟨[], by rwa [List.append_nil]⟩ ?_
  rintro i hi u l hl ⟨later, hinv, hn, hP, hx, hops⟩
  obtain ⟨t, hstep, hinv', hl', hports, hP', -, -, more, hmore⟩ := step_elsewhere hinv (hn ▸ hms i hi) hl
  exact ⟨t, hstep, hl', later ++ more, hinv', hports.1.trans hn, hP'.trans hP,
    (hports.2 p (hms i hi).2.1.symm).trans hx, by rw [hmore, hops, List.append_assoc]⟩

end

/-- Settles O52: each turn of the TICK is followed by other ports' moves, which keep its port and, until U_T4, its record. -/
theorem tickCompletesAmongOtherPortsMoves : Obligations.TickCompletesAmongOtherPortsMoves := by
  intro s p ts f r m1 m2 m3 m4 m5 rest hinv hp hidle hr hf hdec hen hpass hfree hms hissuers hin
  simp only [List.mem_append, or_imp, forall_and] at hms
  obtain ⟨⟨⟨⟨hm1, hm2⟩, hm3⟩, hm4⟩, hm5⟩ := hms
  simp only [List.append_assoc, List.cons_append] at hin
  have hs : StandsBetween p s.nports s.env.params (s.portAt p) s.env.stream s := ⟨hinv, rfl, rfl, rfl, rfl⟩
  -- U_T0, and then issuers' moves
  obtain ⟨t1, h1, hturn1, -, -, -, -, -, howner1, -⟩ := step_tick_start hin hp hidle hr hf hdec hen hpass
  obtain ⟨u1, hrun1, hin1, hu1, hfree1⟩ :=
    (hs.turn h1 hturn1).issuers (howner1.trans hfree) hturn1.inputs hm1 hissuers
  -- U_T1, U_T2 and U_T3, and after each any moves while this port owns the transport
  obtain ⟨t2, h2, hturn2, -⟩ := step_tick_select hin1 (hu1.lt hp) (congrArg Port.seq hu1.portAt) hfree1
  obtain ⟨u2, hrun2, hin2, hu2⟩ := (hu1.turn h2 hturn2).holding hp rfl hturn2.inputs hm2
  obtain ⟨t3, h3, hturn3, -⟩ := step_tick_address hin2 (hu2.lt hp) (congrArg Port.seq hu2.portAt)
  obtain ⟨u3, hrun3, hin3, hu3⟩ := (hu2.turn h3 hturn3).holding hp rfl hturn3.inputs hm3
  obtain ⟨t4, h4, hturn4, -⟩ := step_tick_read hin3 (hu3.lt hp) (congrArg Port.seq hu3.portAt)
  obtain ⟨u4, hrun4, hin4, hu4⟩ := (hu3.turn h4 hturn4).holding hp rfl hturn4.inputs hm4
  -- U_T4, and then any moves
  obtain ⟨t5, h5, hturn5, -⟩ := step_tick_deselect hin4 (hu4.lt hp) (congrArg Port.seq hu4.portAt)
  obtain ⟨w, hrun5, hin5, later, hw⟩ := (hu4.turn h5 hturn5).anyMoves hturn5.inputs hm5
  -- U_T5
  have hseq : w.seqAt p = .tWrite := congrArg Port.seq hw.portAt
  have hfreew : w.lock = false := by
    obtain ⟨⟨-, -, -, -, hl, -⟩, -⟩ := hw
    exact hl
  obtain ⟨t, h6, ⟨hports, hx, -, hrest, hops⟩, hwrote, hadvanced, -⟩ := step_tick_write hin5 (hw.lt hp) hseq hfreew
  have hxw : w.portAt p = { seq := .tWrite, tsl := ts, rxb := r, chan := { frame := none, response := none } } := by
    rw [hw.portAt, hu4.portAt, hu3.portAt, hu2.portAt, hu1.portAt]
  have hxt : t.portAt p = { seq := .idle, tsl := ts, rxb := r, chan := { frame := none, response := some [0x02] } } := by
    rw [hx, hxw]
  have hrxb : w.rxbAt p = r := congrArg Port.rxb hxw
  rw [hrxb] at hwrote
  refine ⟨w, t, ?_, h6, hseq, hwrote, hadvanced, hports, congrArg Port.seq hxt, congrArg (fun x => x.chan.response) hxt,
    congrArg (fun x => x.chan.frame) hxt, congrArg Port.tsl hxt, congrArg Port.rxb hxt, hrest, later, ?_⟩
  · have hcount : 5 + (m1 ++ m2 ++ m3 ++ m4 ++ m5).length =
        m1.length + 1 + (m2.length + 1 + (m3.length + 1 + (m4.length + 1 + (m5.length + 1)))) := by
      simp only [List.length_append]
      omega
    rw [hcount]
    exact runSteps_add ((runSteps_succ _ h1).trans hrun1) <| runSteps_add ((runSteps_succ _ h2).trans hrun2) <|
      runSteps_add ((runSteps_succ _ h3).trans hrun3) <| runSteps_add ((runSteps_succ _ h4).trans hrun4) <|
        (runSteps_succ _ h5).trans hrun5
  · obtain ⟨-, -, -, -, hopsw⟩ := hw
    simp only [hops, hopsw, hu2.params, List.append_assoc, List.cons_append, List.nil_append, List.append_nil]

end Sys2Proof.Machine
end

section
/-! PROOFS. Runs without end (60_exceptions.md R192): what able to run means, and that no unit looks at inputs to come. -/

namespace Sys2Proof.Machine

/-! ### A port that is not able to run holds -/

/-- A frame that is not able to run is a ring command's at LOCK = 1, and holds (R60). -/
theorem runSequencer_frame_held {s : State} {f : Frame} (h : s.Shows f) (hable : s.frameAbleToRun f = false) :
    runSequencer s = .next s := by
  rw [runSequencer_shows h]
  unfold State.frameAbleToRun at hable
  split at hable
  · next i hdec =>
    rw [Bool.not_eq_false', Bool.and_eq_true] at hable
    obtain ⟨hi, hl⟩ := hable
    have hheld : exec i s = .next s := by
      cases i with
      | rwrite v => exact execRwrite_held v hl
      | rdpkt => exact execRdpkt_held hl
      | rstcur => exact execRstcur_held hl
      | gate | tick | seten => cases hi
    rw [runFrame_legal hdec, hheld, acceptAfter_held h]
  · cases hable

/-- Without a completion of the transport a port that is not able to run holds (R8). -/
theorem runSequencer_held {s : State} (hans : s.env.answer = none) (hable : s.ableToRun s.env.port = false) :
    runSequencer s = .next s := by
  have htick : s.here.seq ≠ .idle → exec (.tick s.here.tsl) s = .next s → runSequencer s = .next s :=
    fun hseq h => (runSequencer_in_progress hseq).trans h
  cases hseq : s.here.seq with
  | idle =>
    by_cases hno : s.here.chan.response ≠ none ∨ s.here.chan.frame = none
    · exact runSequencer_nothing hseq hno
    · rw [not_or, not_not] at hno
      obtain ⟨f, hf⟩ := Option.ne_none_iff_exists'.1 hno.2
      have hshown : s.Shows f := ⟨hseq, hno.1, hf⟩
      exact runSequencer_frame_held hshown (State.ableToRun_shows hshown ▸ hable)
  | tXport =>
    have howned : s.xportOwner ≠ none := fun hfree => by
      rw [State.ableToRun_tXport hseq, hfree] at hable
      cases hable
    exact htick (by rw [hseq]; decide) ((execTick_tXport _ hseq).trans (unitT1_held howned))
  | tAddr =>
    exact htick (by rw [hseq]; decide) ((execTick_tAddr _ hseq).trans (unitT2_held (by rw [hans]; nofun)))
  | tRead =>
    exact htick (by rw [hseq]; decide) ((execTick_tRead _ hseq).trans (unitT3_held fun r => by rw [hans]; nofun))
  | tDesel =>
    rw [State.ableToRun_tDesel hseq] at hable
    cases hable
  | tWrite =>
    rw [State.ableToRun_tWrite hseq, Bool.not_eq_false'] at hable
    exact htick (by rw [hseq]; decide) ((execTick_tWrite _ hseq).trans (unitT5_held hable))

/-! ### What a turn does to its port -/

/-- The phase after each (R152 to R156). -/
def Phase.next : Phase → Phase
  | .idle => .tXport
  | .tXport => .tAddr
  | .tAddr => .tRead
  | .tRead => .tDesel
  | .tDesel => .tWrite
  | .tWrite => .idle

/-- A TICK's turn stays or goes to the next phase, and U_T5 answers 0x02 (R151, R156). -/
theorem TurnEffect.in_progress {s t : State} (h : TurnEffect s t) (hport : s.env.port < s.nports)
    (hseq : s.seqAt s.env.port ≠ .idle) :
    (t = s ∧ s.ableToRun s.env.port = false) ∨
      (t.seqAt s.env.port = (s.seqAt s.env.port).next ∧
        (s.seqAt s.env.port = .tWrite → t.responseAt s.env.port = some [0x02])) := by
  have went : ∀ {ph : Phase} {x : Port}, ph ≠ .tWrite → s.here.seq = ph → t.portAt s.env.port = x → x.seq = ph.next →
      t.seqAt s.env.port = (s.seqAt s.env.port).next ∧
        (s.seqAt s.env.port = .tWrite → t.responseAt s.env.port = some [0x02]) := by
    intro ph x hne hph hx hnext
    have hs : s.seqAt s.env.port = ph := hph
    exact ⟨by rw [hs, State.seqAt, hx, hnext], fun hw => absurd (hs.symm.trans hw) hne⟩
  cases h with
  | hold hable => exact .inl ⟨rfl, hable⟩
  | answer hshown => exact absurd hshown.1 hseq
  | start hacc => obtain ⟨f, hshown, -⟩ := hacc; exact absurd hshown.1 hseq
  | select hph => exact .inr (went (by decide) hph (State.setSeq_portAt _ _ hport) rfl)
  | address hph => exact .inr (went (by decide) hph (State.setSeq_portAt _ _ hport) rfl)
  | read hph => exact .inr (went (by decide) hph (State.setRxb_setSeq_portAt (s.logTx _) _ _ hport) rfl)
  | deselect hph => exact .inr (went (by decide) hph (State.setSeq_portAt _ _ hport) rfl)
  | ringWrite hph =>
    have hp := State.respond_setSeq_portAt (s.ringWrite (tickValues s.here.rxb)) false true [] .idle hport
    have hs : s.seqAt s.env.port = .tWrite := hph
    rw [responseFrame_res] at hp
    rw [hs]
    exact .inr ⟨(congrArg Port.seq hp :), fun _ => (congrArg (fun x => x.chan.response) hp :)⟩

/-- The turn of a port that shows a frame holds, or accepts it: it is answered, or its TICK starts (R27). -/
theorem TurnEffect.shown {s t : State} {f : Frame} (h : TurnEffect s t) (hport : s.env.port < s.nports)
    (hshown : s.Shows f) :
    (t = s ∧ s.ableToRun s.env.port = false) ∨
      (t.frameAt s.env.port = none ∧ (t.responseAt s.env.port ≠ none ∨ t.seqAt s.env.port = .tXport)) := by
  have busy : ∀ {ph : Phase}, ph ≠ .idle → s.here.seq ≠ ph := fun hne hph => hne (hph.symm.trans hshown.1)
  cases h with
  | hold hable => exact .inl ⟨rfl, hable⟩
  | answer _ hans =>
    have hp := hans.portAt hport
    exact .inr ⟨congrArg (fun x => x.chan.frame) hp, .inl (by rw [State.responseAt, hp]; nofun)⟩
  | @start ts =>
    have hp := State.start_dropFrame_portAt ts hport
    exact .inr ⟨congrArg (fun x => x.chan.frame) hp, .inr (congrArg Port.seq hp)⟩
  | select hph => exact absurd hph (busy (by decide))
  | address hph => exact absurd hph (busy (by decide))
  | read hph => exact absurd hph (busy (by decide))
  | deselect hph => exact absurd hph (busy (by decide))
  | ringWrite hph => exact absurd hph (busy (by decide))

/-- A turn that changes nothing is that of a port which is not able to run. -/
theorem TurnEffect.not_able {s : State} (h : TurnEffect s s) (hport : s.env.port < s.nports) :
    s.ableToRun s.env.port = false := by
  by_cases hseq : s.seqAt s.env.port = .idle
  · by_cases hno : s.here.chan.response ≠ none ∨ s.here.chan.frame = none
    · exact State.ableToRun_nothing hseq hno
    · rw [not_or, not_not] at hno
      obtain ⟨f, hf⟩ := Option.ne_none_iff_exists'.1 hno.2
      rcases h.shown hport ⟨hseq, hno.1, hf⟩ with ⟨-, hable⟩ | ⟨hnone, -⟩
      · exact hable
      · exact absurd hnone hno.2
  · rcases h.in_progress hport hseq with ⟨-, hable⟩ | ⟨hnext, -⟩
    · exact hable
    · cases hph : s.seqAt s.env.port <;> rw [hph] at hnext <;> cases hnext

/-- Settles O53: a port that is not able to run holds, and every turn but a hold changes its port. -/
theorem ableToRunIsNotHolding : Obligations.AbleToRunIsNotHolding := by
  intro s p hp
  have hstep : step (s.withInputs [.turn p none]) = runSequencer ((s.withInputs []).turn p none) :=
    step_turn (s := s.withInputs [.turn p none]) rfl hp
  rw [hstep]
  constructor
  · intro hable
    exact runSequencer_held (s := (s.withInputs []).turn p none) rfl hable
  · intro hheld
    exact (runSequencer_effect (s := (s.withInputs []).turn p none) hp hheld).not_able hp

/-! ### No unit looks at the inputs to come -/

/-- The same outcome with these inputs to come. -/
def Result.withInputs (o : Result) (l : List Input) : Result :=
  match o with
  | .next t => .next (t.withInputs l)
  | .fault r => .fault r
  | .refused r => .refused r

section
variable (s : State) (l : List Input)

theorem ringUnit_withInputs {body : State → State} (hbody : ∀ u : State, body (u.withInputs l) = (body u).withInputs l) :
    ringUnit body (s.withInputs l) = Result.withInputs (ringUnit body s) l := by
  cases hl : s.lock with
  | true => rw [ringUnit_held _ hl, ringUnit_held (s := s.withInputs l) _ hl]; rfl
  | false =>
    rw [ringUnit_free _ hl, ringUnit_free (s := s.withInputs l) _ hl]
    exact congrArg (fun u => Host.Outcome.next (State.setLock u false)) (hbody (s.setLock true))

/-- The units of a TICK run the same whatever inputs are to come. -/
theorem execTick_withInputs (ts : Nat) :
    exec (.tick ts) (s.withInputs l) = Result.withInputs (exec (.tick ts) s) l := by
  simp only [exec, execTick, State.withInputs_here]
  cases s.here.seq with
  | idle =>
    have hgate : (s.withInputs l).gate ts = s.gate ts := rfl
    simp only [unitT0, State.withInputs_enabled, hgate]
    cases s.enabled with
    | false => rfl
    | true => cases (s.gate ts).1 <;> rfl
  | tXport =>
    simp only [unitT1, State.withInputs_xportOwner]
    cases s.xportOwner <;> rfl
  | tAddr =>
    simp only [unitT2, State.withInputs_env_answer]
    split <;> rfl
  | tRead =>
    simp only [unitT3, State.withInputs_env_answer]
    split <;> rfl
  | tDesel => rfl
  | tWrite =>
    exact ringUnit_withInputs s l
      (body := fun s => ((s.ringWrite (tickValues s.here.rxb)).respond false true []).setSeq .idle) fun _ => rfl

/-- Commands run the same whatever inputs are to come (R59). -/
theorem exec_withInputs (i : Instr) : exec i (s.withInputs l) = Result.withInputs (exec i s) l := by
  cases i with
  | gate ts => rfl
  | rwrite v => exact ringUnit_withInputs s l (body := fun s => (s.ringWrite v).respond false false []) fun _ => rfl
  | rdpkt => exact ringUnit_withInputs s l (body := fun s => s.respond false false s.ring.ser) fun _ => rfl
  | rstcur => exact ringUnit_withInputs s l (body := fun s => (s.setCursor 0).respond false false []) fun _ => rfl
  | seten e => rfl
  | tick ts => exact execTick_withInputs s l ts

/-- Accepting a frame does not look at the inputs to come. -/
theorem acceptAfter_withInputs (o : Result) : acceptAfter (Result.withInputs o l) = Result.withInputs (acceptAfter o) l := by
  cases o with
  | next t =>
    have haccepted : (t.withInputs l).accepted = t.accepted := rfl
    simp only [acceptAfter, Result.withInputs, haccepted]
    split <;> rfl
  | fault r => rfl
  | refused r => rfl

/-- A sequencer's turn does not look at the inputs to come. -/
theorem runSequencer_withInputs : runSequencer (s.withInputs l) = Result.withInputs (runSequencer s) l := by
  by_cases hidle : s.here.seq = .idle
  · by_cases hno : s.here.chan.response ≠ none ∨ s.here.chan.frame = none
    · rw [runSequencer_nothing hidle hno]
      exact runSequencer_nothing (s := s.withInputs l) hidle hno
    · rw [not_or, not_not] at hno
      obtain ⟨f, hf⟩ := Option.ne_none_iff_exists'.1 hno.2
      have hshown : s.Shows f := ⟨hidle, hno.1, hf⟩
      rw [runSequencer_shows hshown, runSequencer_shows (s := s.withInputs l) hshown]
      simp only [runFrame, State.withInputs_env_params]
      split
      · rw [exec_withInputs, acceptAfter_withInputs]
      · exact acceptAfter_withInputs l (answerIllegal s)
  · rw [runSequencer_in_progress hidle, runSequencer_in_progress (s := s.withInputs l) hidle]
    exact exec_withInputs s l (.tick s.here.tsl)

/-- A move does not look at the inputs to come. -/
theorem applyMove_withInputs (m : Move) : applyMove m (s.withInputs l) = Result.withInputs (applyMove m s) l := by
  cases m with
  | run p a => exact runSequencer_withInputs (s.turn p a) l
  | present p f => rfl
  | withdraw p => rfl
  | take p => rfl

/-- One input does not look at those after it (R59). -/
theorem applyInput_withInputs (i : Input) : applyInput i (s.withInputs l) = Result.withInputs (applyInput i s) l := by
  obtain ⟨rst, m⟩ := i
  cases rst with
  | true => rfl
  | false =>
    have hmove : ∀ u : State, applyInput { reset := false, move := m } u =
        if m.port < u.nports then applyMove m u else .refused (.noSuchPort m.port) := fun _ => rfl
    rw [hmove, hmove, State.withInputs_nports, applyMove_withInputs]
    split <;> rfl

end

/-- A step with more inputs to come is the same step. -/
theorem step_withInputs_cons {s t : State} {i : Input} (l : List Input)
    (h : step (s.withInputs [i]) = .next t) : step (s.withInputs (i :: l)) = .next (t.withInputs l) := by
  have happly : applyInput i (s.withInputs []) = .next t := h
  have hmore : step (s.withInputs (i :: l)) = applyInput i ((s.withInputs []).withInputs l) := rfl
  rw [hmore, applyInput_withInputs, happly]
  rfl

/-- Settles O54: by induction on k, from the run's second state on; the first step does not look at the later inputs. -/
theorem startOfARunIsStepsOfTheMachine : Obligations.StartOfARunIsStepsOfTheMachine := by
  intro states inputs k hrun
  induction k generalizing states inputs with
  | zero => rfl
  | succ k ih =>
    have hrest := ih (fun n => states (n + 1)) (fun n => inputs (n + 1)) fun n => hrun (n + 1)
    have hfirst := hrun 0
    rw [List.range_succ_eq_map, List.filterMap_cons, List.filterMap_map]
    cases hi : inputs 0 with
    | none =>
      rw [hi] at hfirst
      have hsame : (states 0).withInputs [] = states 1 := Host.Outcome.next.inj hfirst
      rw [← hrest]
      simp only [← hsame]
      rfl
    | some i =>
      rw [hi] at hfirst
      exact (runSteps_succ _ (step_withInputs_cons _ hfirst)).trans hrest

/-! ### LOCK -/

/-- No step takes LOCK and keeps it (R25). -/
theorem lock_of_step {s t : State} (h : step s = .next t) (hl : s.lock = false) : t.lock = false := by
  cases step_effect h with
  | none => exact hl
  | reset => rfl
  | issuer => exact hl
  | turn hin hp heff =>
    obtain ⟨-, -, -, -, hlock⟩ := heff.leaves
    exact hlock.trans hl

/-- In a run LOCK, once free, stays free. -/
theorem IsRun.lock_free {states : Nat → State} {inputs : Nat → Option Input} (h : IsRun states inputs) {n : Nat}
    (hl : (states n).lock = false) {m : Nat} (hm : n ≤ m) : (states m).lock = false := by
  induction m, hm using Nat.le_induction with
  | base => exact hl
  | succ m _ ih => exact lock_of_step (h m) ih

/-- Settles O55: every step keeps LOCK free. -/
theorem everyRunKeepsLockFree : Obligations.EveryRunKeepsLockFree := by
  intro states inputs n hrun hl
  exact ⟨fun m hm => hrun.lock_free hl hm, fun k => ⟨max n k, le_max_right n k, hrun.lock_free hl (le_max_left n k)⟩⟩

end Sys2Proof.Machine
end

section
/-! PROOFS. The liveness statements of R192 over runs without end: acceptance, the end of a TICK, its hang, and that the
assumptions can be met. -/

namespace Sys2Proof.Machine

section
variable {states : Nat → State} {inputs : Nat → Option Input} {p n : Nat}

/-! ### One step of a run, seen from a port -/

/-- The number of ports is the same in every state of a run (R5). -/
theorem IsRun.nports (h : IsRun states inputs) (m k : Nat) : (states m).nports = (states k).nports := by
  have hzero : ∀ m, (states m).nports = (states 0).nports := by
    intro m
    induction m with
    | zero => rfl
    | succ m ih => exact (noStepChangesTheParameters _ _ (h m)).2.trans ih
  rw [hzero m, hzero k]

/-- Without reset a step of a run leaves port p, lets its issuer write its channel, or is its sequencer's turn. -/
theorem IsRun.port_step (h : IsRun states inputs) {m : Nat} (hreset : ¬ ResetAt inputs m) :
    (states (m + 1)).portAt p = (states m).portAt p ∨
      (∃ c, (states (m + 1)).portAt p = { (states m).portAt p with chan := c } ∧
        (c.response = (states m).responseAt p ∨ c.response = none) ∧
        (c.frame = none → inputs m = some { reset := false, move := .withdraw p } ∨ (states m).frameAt p = none)) ∨
      ∃ a, inputs m = some (.turn p a) ∧ p < (states m).nports ∧
        TurnEffect (((states m).withInputs []).turn p a) (states (m + 1)) := by
  have hlist : ∀ {i : Input} {rest}, ((states m).withInputs (inputs m).toList).env.inputs = i :: rest →
      inputs m = some i ∧ rest = [] := by
    intro i rest hin
    cases hi : inputs m with
    | none => rw [hi] at hin; cases hin
    | some j => rw [hi] at hin; cases hin; exact ⟨rfl, rfl⟩
  generalize ht : states (m + 1) = t
  have hstep := h m
  rw [ht] at hstep
  cases step_effect hstep with
  | none => exact .inl rfl
  | reset hin => exact absurd ⟨_, (hlist hin).1⟩ hreset
  | @issuer mv rest c hin hm hp hresponse hframe =>
    by_cases hpm : p = mv.port
    · subst hpm
      refine .inr (.inl ⟨c, State.setChan_portAt_self c hp, hresponse, fun hnone => ?_⟩)
      rcases hframe hnone with hwithdraw | hno
      · exact .inl (hwithdraw ▸ (hlist hin).1)
      · exact .inr hno
    · exact .inl (State.portAt_setPort_ne _ _ hpm)
  | @turn q a rest _ hin hq heff =>
    obtain ⟨hturn, rfl⟩ := hlist hin
    by_cases hpq : p = q
    · subst hpq
      exact .inr (.inr ⟨a, hturn, hq, heff⟩)
    · exact .inl (heff.leaves.1.2 p hpq)

/-- A turn in a run has one of a turn's effects. -/
theorem IsRun.turn_effect (h : IsRun states inputs) {m : Nat} {a : Option TxAnswer} (hi : inputs m = some (.turn p a))
    (hp : p < (states m).nports) : TurnEffect (((states m).withInputs []).turn p a) (states (m + 1)) :=
  runSequencer_effect (s := ((states m).withInputs []).turn p a) hp (h.turn hi)

/-- A turn at T_ADDR is U_T2 (R154). -/
theorem IsRun.unitT2_turn (h : IsRun states inputs) {m : Nat} {a : Option TxAnswer} (hi : inputs m = some (.turn p a))
    (hseq : (states m).seqAt p = .tAddr) : unitT2 (((states m).withInputs []).turn p a) = .next (states (m + 1)) := by
  have hhere : (((states m).withInputs []).turn p a).here.seq = .tAddr := hseq
  exact (execTick_tAddr _ hhere).symm.trans (h.tick_turn hi fun hidle => nomatch hhere.symm.trans hidle)

/-- A turn at T_READ is U_T3 (R154). -/
theorem IsRun.unitT3_turn (h : IsRun states inputs) {m : Nat} {a : Option TxAnswer} (hi : inputs m = some (.turn p a))
    (hseq : (states m).seqAt p = .tRead) : unitT3 (((states m).withInputs []).turn p a) = .next (states (m + 1)) := by
  have hhere : (((states m).withInputs []).turn p a).here.seq = .tRead := hseq
  exact (execTick_tRead _ hhere).symm.trans (h.tick_turn hi fun hidle => nomatch hhere.symm.trans hidle)

/-- Without reset and without a turn that changes it, the port stays in its phase, and no response comes. -/
theorem IsRun.port_kept (h : IsRun states inputs) {m : Nat} (hreset : ¬ ResetAt inputs m)
    (hkeep : ∀ a, inputs m = some (.turn p a) → (states (m + 1)).portAt p = (states m).portAt p) :
    (states (m + 1)).seqAt p = (states m).seqAt p ∧
      ((states m).responseAt p = none → (states (m + 1)).responseAt p = none) := by
  have same : (states (m + 1)).portAt p = (states m).portAt p →
      (states (m + 1)).seqAt p = (states m).seqAt p ∧
        ((states m).responseAt p = none → (states (m + 1)).responseAt p = none) := fun hx =>
    ⟨congrArg Port.seq hx, fun hr => (congrArg (fun x => x.chan.response) hx).trans hr⟩
  rcases h.port_step (p := p) hreset with hx | ⟨c, hx, hresponse, -⟩ | ⟨a, hturn, -⟩
  · exact same hx
  · refine ⟨(congrArg Port.seq hx :), fun hr => ?_⟩
    rw [State.responseAt, hx]
    exact hresponse.elim (fun hc => hc.trans hr) id
  · exact same (hkeep a hturn)

/-- Without reset a TICK in progress stays in its phase or goes to the next one, and U_T5 answers 0x02 (R151). -/
theorem IsRun.stays_or_goes_on (h : IsRun states inputs) {m : Nat} (hreset : ¬ ResetAt inputs m)
    (hseq : (states m).seqAt p ≠ .idle) :
    (states (m + 1)).seqAt p = (states m).seqAt p ∨
      ((states (m + 1)).seqAt p = ((states m).seqAt p).next ∧
        ((states m).seqAt p = .tWrite → (states (m + 1)).responseAt p = some [0x02])) := by
  rcases h.port_step (p := p) hreset with hx | ⟨c, hx, -⟩ | ⟨a, -, hp, heff⟩
  · exact .inl (congrArg Port.seq hx)
  · exact .inl (congrArg Port.seq hx :)
  · rcases heff.in_progress hp hseq with ⟨hheld, -⟩ | hnext
    · exact .inl (congrArg (State.seqAt · p) hheld :)
    · exact .inr hnext

/-- A TICK that is able to run leaves its phase in its turn. -/
theorem IsRun.able_turn (h : IsRun states inputs) {m : Nat} (hp : p < (states m).nports) (hturn : TakesTurn inputs p m)
    (hable : (states m).ableToRun p = true) (hseq : (states m).seqAt p ≠ .idle) :
    (states (m + 1)).seqAt p = ((states m).seqAt p).next := by
  obtain ⟨a, hi⟩ := hturn
  rcases (h.turn_effect hi hp).in_progress hp hseq with ⟨-, hnot⟩ | ⟨hnext, -⟩
  · exact absurd (hable.symm.trans hnot) (by decide)
  · exact hnext

/-- No phase is followed by itself. -/
theorem Phase.next_ne (ph : Phase) : ph.next ≠ ph := by
  cases ph <;> decide

/-- A TICK in progress stands in its phase for ever, or leaves it for the next one at some step. -/
theorem IsRun.stands_or_leaves (h : IsRun states inputs) (hreset : NoResetFrom inputs n) {m : Nat} (hm : n ≤ m)
    {ph : Phase} (hseq : (states m).seqAt p = ph) (hne : ph ≠ .idle) :
    (∀ k, m ≤ k → (states k).seqAt p = ph) ∨
      ∃ k, m ≤ k ∧ (states k).seqAt p = ph ∧ (states (k + 1)).seqAt p = ph.next ∧
        (ph = .tWrite → (states (k + 1)).responseAt p = some [0x02]) := by
  by_contra hcon
  rw [not_or] at hcon
  obtain ⟨hleft, hnever⟩ := hcon
  refine hleft fun k hk => ?_
  induction k, hk using Nat.le_induction with
  | base => exact hseq
  | succ k hk ih =>
    rcases h.stays_or_goes_on (p := p) (hreset k (hm.trans hk)) (ih ▸ hne) with hstays | hgoes
    · exact hstays.trans ih
    · rw [ih] at hgoes
      exact absurd ⟨k, hk, ih, hgoes⟩ hnever

/-- In a weakly fair run no TICK stands for ever in a phase in which it is able to run from some step on (R192). -/
theorem WeaklyFair.not_stands (hfair : WeaklyFair states inputs) (hrun : IsRun states inputs) (hp : p < (states n).nports)
    {ph : Phase} (hne : ph ≠ .idle) {m : Nat} (hstands : ∀ k, m ≤ k → (states k).seqAt p = ph)
    (hable : ∀ k, m ≤ k → (states k).ableToRun p = true) : False := by
  have hports : ∀ k, p < (states k).nports := fun k => by rwa [hrun.nports k n]
  obtain ⟨k, hk, hturn⟩ := hfair p m (hports m) hable
  have hnext := hrun.able_turn (hports k) hturn (hable k hk) (by rwa [hstands k hk])
  rw [hstands k hk, hstands (k + 1) (hk.trans (Nat.le_succ k))] at hnext
  exact ph.next_ne hnext.symm

/-! ### Acceptance -/

/-- Port p is IDLE, its response is taken, and a frame is shown. -/
def WaitsForAcceptance (p : Nat) (s : State) : Prop :=
  s.seqAt p = .idle ∧ s.responseAt p = none ∧ s.frameAt p ≠ none

/-- Port p's turn accepts the frame that it is shown: it is answered, or its TICK starts. -/
def AcceptsBetween (p : Nat) (s t : State) : Prop :=
  WaitsForAcceptance p s ∧ t.frameAt p = none ∧ (t.responseAt p ≠ none ∨ t.seqAt p = .tXport)

/-- The turn of a waiting port accepts its frame, or is a hold. -/
theorem TurnEffect.waiting {s t : State} {a : Option TxAnswer}
    (h : TurnEffect ((s.withInputs []).turn p a) t) (hp : p < s.nports) (hw : WaitsForAcceptance p s) :
    (t.portAt p = s.portAt p ∧ s.ableToRun p = false) ∨ AcceptsBetween p s t := by
  obtain ⟨hidle, hr, hf⟩ := id hw
  obtain ⟨f, hf⟩ := Option.ne_none_iff_exists'.1 hf
  rcases h.shown hp ⟨hidle, hr, hf⟩ with ⟨hheld, hable⟩ | haccepted
  · exact .inl ⟨(congrArg (State.portAt · p) hheld :), hable⟩
  · exact .inr ⟨hw, haccepted⟩

/-- Without reset and withdrawal a waiting port waits on, or its turn accepts its frame. -/
theorem IsRun.waits_or_accepts (h : IsRun states inputs) {m : Nat} (hreset : ¬ ResetAt inputs m)
    (hstay : inputs m ≠ some { reset := false, move := .withdraw p }) (hw : WaitsForAcceptance p (states m)) :
    WaitsForAcceptance p (states (m + 1)) ∨ TakesTurn inputs p m ∧ AcceptsBetween p (states m) (states (m + 1)) := by
  have same : (states (m + 1)).portAt p = (states m).portAt p → WaitsForAcceptance p (states (m + 1)) := fun hx => by
    simpa only [WaitsForAcceptance, State.seqAt, State.responseAt, State.frameAt, hx] using hw
  rcases h.port_step (p := p) hreset with hx | ⟨c, hx, hresponse, hframe⟩ | ⟨a, hturn, hp, heff⟩
  · exact .inl (same hx)
  · obtain ⟨hidle, hr, hf⟩ := hw
    refine .inl ⟨(congrArg Port.seq hx).trans hidle, ?_, fun hnone => ?_⟩
    · rw [State.responseAt, hx]
      exact hresponse.elim (fun hc => hc.trans hr) id
    · rw [State.frameAt, hx] at hnone
      exact (hframe hnone).elim hstay hf
  · rcases heff.waiting hp hw with ⟨hx, -⟩ | haccepts
    · exact .inl (same hx)
    · exact .inr ⟨⟨a, hturn⟩, haccepts⟩

/-- A waiting port is able to run at LOCK = 0. -/
theorem WaitsForAcceptance.able {s : State} (hw : WaitsForAcceptance p s) (hl : s.lock = false) :
    s.ableToRun p = true := by
  obtain ⟨hidle, hr, hf⟩ := hw
  obtain ⟨f, hf⟩ := Option.ne_none_iff_exists'.1 hf
  exact State.ableToRun_idle hidle hr hf hl

/-- Settles O56: a port that waited for ever would be able to run from the release of LOCK on, and its turn would accept
the frame. -/
theorem fairRunAcceptsAShownFrame : Obligations.FairRunAcceptsAShownFrame := by
  intro states inputs p n hrun hfair hlock hreset hp hidle hr hf hstay
  suffices haccepts : ∃ m, n ≤ m ∧ TakesTurn inputs p m ∧ AcceptsBetween p (states m) (states (m + 1)) by
    obtain ⟨m, hm, hturn, ⟨hidle', hr', hf'⟩, haccepted⟩ := haccepts
    exact ⟨m, hm, hturn, hidle', hr', hf', haccepted⟩
  by_contra hnever
  have hwaits : ∀ m, n ≤ m → WaitsForAcceptance p (states m) := by
    intro m hm
    induction m, hm using Nat.le_induction with
    | base => exact ⟨hidle, hr, hf⟩
    | succ m hm ih =>
      exact (hrun.waits_or_accepts (hreset m hm) (hstay m hm) ih).resolve_right fun h => hnever ⟨m, hm, h⟩
  obtain ⟨m0, hm0, hl⟩ := hlock n
  have hable : ∀ m, m0 ≤ m → (states m).ableToRun p = true := fun m hm =>
    (hwaits m (hm0.trans hm)).able (hrun.lock_free hl hm)
  have hports : ∀ m, p < (states m).nports := fun m => by rwa [hrun.nports m n]
  obtain ⟨m, hm, a, hturn⟩ := hfair p m0 (hports m0) hable
  rcases (hrun.turn_effect hturn (hports m)).waiting (hports m) (hwaits m (hm0.trans hm)) with ⟨-, hnot⟩ | haccepts
  · exact absurd ((hable m hm).symm.trans hnot) (by decide)
  · exact hnever ⟨m, hm0.trans hm, ⟨a, hturn⟩, haccepts⟩

/-! ### The end of a TICK -/

section
variable (hrun : IsRun states inputs) (hfair : WeaklyFair states inputs) (hlock : LockReleased states)
  (hreset : NoResetFrom inputs n) (hp : p < (states n).nports) {m : Nat} (hm : n ≤ m)
include hrun hfair hlock hreset hp hm

/-- At T_WRITE a TICK ends, since LOCK is free from some step on. -/
theorem tick_ends_of_tWrite (hseq : (states m).seqAt p = .tWrite) : TickEndsFrom states p n := by
  rcases hrun.stands_or_leaves hreset hm hseq (by decide) with hstands | ⟨k, hk, hat, hidle, hanswer⟩
  · obtain ⟨m0, hm0, hl⟩ := hlock m
    refine (hfair.not_stands hrun hp (by decide) (fun k hk => hstands k (hm0.trans hk)) fun k hk => ?_).elim
    rw [State.ableToRun_tWrite (hstands k (hm0.trans hk)), hrun.lock_free hl hk]
    rfl
  · exact ⟨k, hm.trans hk, hat, hidle, hanswer rfl⟩

/-- At T_DESEL a TICK is always able to run. -/
theorem tick_ends_of_tDesel (hseq : (states m).seqAt p = .tDesel) : TickEndsFrom states p n := by
  rcases hrun.stands_or_leaves hreset hm hseq (by decide) with hstands | ⟨k, hk, -, hnext, -⟩
  · exact (hfair.not_stands hrun hp (by decide) hstands fun k hk => State.ableToRun_tDesel (hstands k hk)).elim
  · exact tick_ends_of_tWrite hrun hfair hlock hreset hp (hm.trans (hk.trans (Nat.le_succ k))) hnext

/-- At T_READ a TICK waits for the transport's bytes for ever, or ends. -/
theorem tick_of_tRead (hseq : (states m).seqAt p = .tRead) :
    TickEndsFrom states p n ∨ StandsForEver states p n .tRead := by
  rcases hrun.stands_or_leaves hreset hm hseq (by decide) with hstands | ⟨k, hk, -, hnext, -⟩
  · exact .inr ⟨m, hm, hstands⟩
  · exact .inl (tick_ends_of_tDesel hrun hfair hlock hreset hp (hm.trans (hk.trans (Nat.le_succ k))) hnext)

/-- At T_ADDR a TICK waits for the transport to take the byte for ever, or reaches T_READ. -/
theorem tick_of_tAddr (hseq : (states m).seqAt p = .tAddr) :
    TickEndsFrom states p n ∨ StandsForEver states p n .tAddr ∨ StandsForEver states p n .tRead := by
  rcases hrun.stands_or_leaves hreset hm hseq (by decide) with hstands | ⟨k, hk, -, hnext, -⟩
  · exact .inr (.inl ⟨m, hm, hstands⟩)
  · exact (tick_of_tRead hrun hfair hlock hreset hp (hm.trans (hk.trans (Nat.le_succ k))) hnext).imp_right .inr

end

/-- A TICK that stands at T_XPORT for ever finds the transport owned again and again (R153, R192). -/
theorem WeaklyFair.waitsForOwner (hfair : WeaklyFair states inputs) (hrun : IsRun states inputs)
    (hp : p < (states n).nports) (hstands : ∀ k, n ≤ k → (states k).seqAt p = .tXport) :
    WaitsForOwnerFrom states p n := by
  refine fun m hm => ⟨hstands m hm, ?_⟩
  by_contra hfree
  refine hfair.not_stands hrun hp (by decide) (fun k hk => hstands k (hm.trans hk)) fun k hk => ?_
  have hnone : (states k).xportOwner = none := by_contra fun howned => hfree ⟨k, hk, howned⟩
  rw [State.ableToRun_tXport (hstands k (hm.trans hk)), hnone]
  rfl

/-- A transport that completes its requests leaves no TICK standing at T_ADDR (R192 c). -/
theorem TransportCompletes.not_stands_tAddr (hcomp : TransportCompletes states inputs) (hrun : IsRun states inputs)
    (hreset : NoResetFrom inputs n) (hp : p < (states n).nports) : ¬ StandsForEver states p n .tAddr := by
  rintro ⟨m, hm, hstands⟩
  have hports : ∀ k, p < (states k).nports := fun k => by rwa [hrun.nports k n]
  obtain ⟨k, hk, hr | hturn⟩ := (hcomp p m (hports m)).1 (hstands m le_rfl)
  · exact hreset k (hm.trans hk) hr
  · have hunit := hrun.unitT2_turn hturn (hstands k hk)
    rw [unitT2_writes rfl] at hunit
    have hnext : (states (k + 1)).seqAt p = .tRead := by
      rw [← Host.Outcome.next.inj hunit]
      exact congrArg Port.seq (State.setSeq_portAt _ _ (hports k))
    exact absurd (hnext.symm.trans (hstands (k + 1) (hk.trans (Nat.le_succ k)))) (by decide)

/-- A transport that completes its requests leaves no TICK standing at T_READ (R192 c). -/
theorem TransportCompletes.not_stands_tRead (hcomp : TransportCompletes states inputs) (hrun : IsRun states inputs)
    (hreset : NoResetFrom inputs n) (hp : p < (states n).nports) : ¬ StandsForEver states p n .tRead := by
  rintro ⟨m, hm, hstands⟩
  have hports : ∀ k, p < (states k).nports := fun k => by rwa [hrun.nports k n]
  obtain ⟨k, hk, hr | ⟨r, hturn⟩⟩ := (hcomp p m (hports m)).2 (hstands m le_rfl)
  · exact hreset k (hm.trans hk) hr
  · have hunit := hrun.unitT3_turn hturn (hstands k hk)
    rw [unitT3_reads rfl] at hunit
    have hnext : (states (k + 1)).seqAt p = .tDesel := by
      rw [← Host.Outcome.next.inj hunit]
      exact congrArg Port.seq (State.setRxb_setSeq_portAt _ _ _ (hports k))
    exact absurd (hnext.symm.trans (hstands (k + 1) (hk.trans (Nat.le_succ k)))) (by decide)

/-- Settles O57: phase by phase, backwards from T_WRITE; a transport that completes leaves out the two waits for it. -/
theorem fairTickEndsOrWaitsForTheTransport : Obligations.FairTickEndsOrWaitsForTheTransport := by
  intro states inputs p n hrun hfair hlock hreset hp hseq
  have hends : TickEndsFrom states p n ∨ WaitsForOwnerFrom states p n ∨
      StandsForEver states p n .tAddr ∨ StandsForEver states p n .tRead := by
    cases hph : (states n).seqAt p with
    | idle => exact absurd hph hseq
    | tXport =>
      rcases hrun.stands_or_leaves hreset le_rfl hph (by decide) with hstands | ⟨k, hk, -, hnext, -⟩
      · exact .inr (.inl (hfair.waitsForOwner hrun hp hstands))
      · exact (tick_of_tAddr hrun hfair hlock hreset hp (hk.trans (Nat.le_succ k)) hnext).imp_right .inr
    | tAddr => exact (tick_of_tAddr hrun hfair hlock hreset hp le_rfl hph).imp_right .inr
    | tRead => exact (tick_of_tRead hrun hfair hlock hreset hp le_rfl hph).imp_right fun h => .inr (.inr h)
    | tDesel => exact .inl (tick_ends_of_tDesel hrun hfair hlock hreset hp le_rfl hph)
    | tWrite => exact .inl (tick_ends_of_tWrite hrun hfair hlock hreset hp le_rfl hph)
  refine ⟨hends, fun hcomp => ?_⟩
  rcases hends with hend | hwait | haddr | hread
  · exact .inl hend
  · exact .inr hwait
  · exact absurd haddr (hcomp.not_stands_tAddr hrun hreset hp)
  · exact absurd hread (hcomp.not_stands_tRead hrun hreset hp)

/-! ### Without a completion -/

/-- A port that no turn changes stays in its phase for ever, and no response comes. -/
theorem IsRun.hangs (h : IsRun states inputs) (hreset : NoResetFrom inputs n) {ph : Phase}
    (hseq : (states n).seqAt p = ph)
    (hkeep : ∀ m, n ≤ m → (states m).seqAt p = ph → ∀ a, inputs m = some (.turn p a) →
      (states (m + 1)).portAt p = (states m).portAt p) (m : Nat) (hm : n ≤ m) :
    (states m).seqAt p = ph ∧ ((states n).responseAt p = none → (states m).responseAt p = none) := by
  induction m, hm using Nat.le_induction with
  | base => exact ⟨hseq, id⟩
  | succ m hm ih =>
    obtain ⟨hat, hno⟩ := ih
    obtain ⟨hsame, hkept⟩ := h.port_kept (hreset m hm) (hkeep m hm hat)
    exact ⟨hsame.trans hat, fun hr => hkept (hno hr)⟩

/-- Settles O58: U_T2 and U_T3 hold in every turn that does not carry their completion. -/
theorem tickHangsWithoutACompletion : Obligations.TickHangsWithoutACompletion := by
  intro states inputs p n hrun hreset
  constructor
  · intro hseq hnever
    refine hrun.hangs hreset hseq fun m hm hat a hturn => ?_
    rcases unitT2_next (hrun.unitT2_turn hturn hat) with ⟨-, hheld⟩ | ⟨htaken, -⟩
    · rw [hheld]; rfl
    · obtain rfl : a = some .taken := htaken
      exact absurd hturn (hnever m hm)
  · intro hseq hnever
    refine hrun.hangs hreset hseq fun m hm hat a hturn => ?_
    rcases unitT3_next (hrun.unitT3_turn hturn hat) with ⟨-, hheld⟩ | ⟨r, hbytes, -⟩
    · rw [hheld]; rfl
    · obtain rfl : a = some (.bytes r) := hbytes
      exact absurd hturn (hnever m hm r)

end

/-! ### A run that meets the assumptions -/

/-- The states of a run that makes these inputs from s on, where each of them completes. -/
def drive (inputs : Nat → Input) (s : State) : Nat → State
  | 0 => s
  | n + 1 =>
    match step ((drive inputs s n).withInputs [inputs n]) with
    | .next t => t
    | .fault _ => s
    | .refused _ => s

/-- Turns of ports that exist make a run. -/
theorem drive_isRun {inputs : Nat → Input} {s : State} (h : ∀ n, (inputs n).move.port < s.nports) :
    IsRun (drive inputs s) (fun n => some (inputs n)) := by
  have hstep : ∀ n, (drive inputs s n).nports = s.nports →
      step ((drive inputs s n).withInputs [inputs n]) = .next (drive inputs s (n + 1)) := by
    intro n hn
    obtain ⟨t, ht⟩ : Completes (step ((drive inputs s n).withInputs [inputs n])) :=
      noStepStopsAtAnExistingPort _ fun i rest hin => by
        cases hin
        exact .inr (hn ▸ h n)
    rw [drive, ht]
  have hports : ∀ n, (drive inputs s n).nports = s.nports := by
    intro n
    induction n with
    | zero => rfl
    | succ n ih => exact (noStepChangesTheParameters _ _ (hstep n ih)).2.trans ih
  exact fun n => hstep n (hports n)

/-- Round robin: every port's turn comes with the byte taken, then with bytes, and then the next port's. -/
def roundRobin (nports n : Nat) : Input :=
  .turn (n / 2 % nports) (some (if n % 2 = 0 then .taken else .bytes .zero))

/-- Every port's turn comes again with either completion. -/
theorem roundRobin_comes {nports p : Nat} (hp : p < nports) (n : Nat) :
    (∃ m, n ≤ m ∧ roundRobin nports m = .turn p (some .taken)) ∧
      ∃ m, n ≤ m ∧ roundRobin nports m = .turn p (some (.bytes .zero)) := by
  have hlate : n ≤ nports * n := Nat.le_mul_of_pos_left n (by omega)
  have hport : (nports * n + p) % nports = p := by rw [Nat.mul_add_mod, Nat.mod_eq_of_lt hp]
  refine ⟨⟨2 * (nports * n + p), by omega, ?_⟩, 2 * (nports * n + p) + 1, by omega, ?_⟩
  · rw [roundRobin, Nat.mul_div_cancel_left _ (by decide), hport, if_pos (by omega)]
  · rw [roundRobin, show (2 * (nports * n + p) + 1) / 2 = nports * n + p by omega, hport, if_neg (by omega)]

/-- Settles O59: in the round robin every port takes its turn again and again, with either completion. -/
theorem livenessAssumptionsCanBeMet : Obligations.LivenessAssumptionsCanBeMet := by
  intro s hone hl
  have hrun : IsRun (drive (roundRobin s.nports) s) (fun n => some (roundRobin s.nports n)) :=
    drive_isRun fun n => Nat.mod_lt _ hone
  have hports : ∀ n, (drive (roundRobin s.nports) s n).nports = s.nports := fun n => hrun.nports n 0
  refine ⟨_, _, rfl, hrun, ⟨fun p n hp _ => ?_, fun n => ⟨n, le_rfl, hrun.lock_free (n := 0) hl (Nat.zero_le n)⟩,
    fun p n hp => ?_⟩, ?_⟩
  · obtain ⟨⟨m, hm, hturn⟩, -⟩ := roundRobin_comes (hports n ▸ hp) n
    exact ⟨m, hm, _, congrArg some hturn⟩
  · obtain ⟨⟨m, hm, htaken⟩, m', hm', hbytes⟩ := roundRobin_comes (hports n ▸ hp) n
    exact ⟨fun _ => ⟨m, hm, .inr (congrArg some htaken)⟩, fun _ => ⟨m', hm', .inr ⟨_, congrArg some hbytes⟩⟩⟩
  · rintro n - ⟨m, hm⟩
    cases congrArg Input.reset (Option.some.inj hm)

end Sys2Proof.Machine
end
